-- ==== Sys2Proof/Word.lean ====
section
/-!
DEFINITION. The values the engine holds: bytes, command words, Montgomery words, the elements of the
tower, Jacobian quadruples, affine points, and a register with its validity tag.
-/

namespace Sys2Proof

/-- One byte of `DBUF` (R16). -/
abbrev Byte := BitVec 8

/-- A control register, or a command word written whole to `CMD` (R46, R120). -/
abbrev Word32 := BitVec 32

/-- A six-bit field of a command word: a register index or a component selector (R121). -/
abbrev Field6 := BitVec 6

/-- A Montgomery word: the 256-bit integer an `fp` register holds (R17, R43). -/
abbrev MontWord := BitVec 256

/-- An Fp2 element (x, y), meaning x·i + y (R18, R200). -/
structure Fp2 where
  x : MontWord
  y : MontWord
deriving DecidableEq, Repr, Inhabited

/-- An Fp6 element (x, y, z), meaning x·τ² + y·τ + z (R18, R230). -/
structure Fp6 where
  x : Fp2
  y : Fp2
  z : Fp2
deriving DecidableEq, Repr, Inhabited

/-- An Fp12 element (x, y), meaning x·ω + y (R18, R260). -/
structure Fp12 where
  x : Fp6
  y : Fp6
deriving DecidableEq, Repr, Inhabited

/-- A Jacobian quadruple (X, Y, Z, T) over the field `F` (R25, R59, R60). -/
structure Jac (F : Type) where
  x : F
  y : F
  z : F
  t : F
deriving DecidableEq, Repr, Inhabited

/-- An affine point over the field `F`, or the point at infinity (R25). -/
inductive Aff (F : Type) where
  | inf
  | pt (x y : F)
deriving DecidableEq, Repr, Inhabited

/-- One register: its validity tag and its content (R42). -/
structure Reg (α : Type) where
  valid   : Bool
  content : α
deriving DecidableEq, Repr, Inhabited

end Sys2Proof
end

