-- ==== Sys2Proof/Machine/ArithBits.lean ====
section
/-!
DEFINITION. Bits of a non-negative integer, the most-significant-first loop of R282 and R375, and the
big-endian byte strings of R16.
-/

namespace Sys2Proof

/-- `bitlen(k)`: the number of bits of k, with bitlen(0) = 0 (R15). -/
def bitLen (k : Nat) : Nat :=
  if k = 0 then 0 else Nat.log2 k + 1

/-- Bits j−1 down to 0 of k. -/
def bitsBelow (k : Nat) : Nat → List Bool
  | 0 => []
  | j + 1 => k.testBit j :: bitsBelow k j

/-- All bits of k, the most significant first. -/
def bitsMsb (k : Nat) : List Bool :=
  bitsBelow k (bitLen k)

/-- One round of the loop: square (double), then multiply by (add) `a` where the bit is 1. -/
def msbRound {α : Type} (mul : α → α → α) (a r : α) (b : Bool) : α :=
  if b then mul (mul r r) a else mul r r

/-- The loop of R282 (square and multiply) and of R375 (double and add), over the bits of k, the most
significant first, from `one`. -/
def msbLoop {α : Type} (mul : α → α → α) (one a : α) (k : Nat) : α :=
  (bitsMsb k).foldl (msbRound mul a) one

/-- A fold over the bits below j carries a relation R from the high part k / 2^j to k. -/
theorem bitsBelow_foldl {β : Type} (R : β → Nat → Prop) (f : β → Bool → β)
    (step : ∀ r m b, R r m → R (f r b) (2 * m + b.toNat)) (k : Nat) :
    ∀ j r, R r (k / 2 ^ j) → R ((bitsBelow k j).foldl f r) k
  | 0, r, h => by simpa [bitsBelow] using h
  | j + 1, r, h => by
    refine bitsBelow_foldl R f step k j _ ?_
    have e : 2 * (k / 2 ^ (j + 1)) + (k.testBit j).toNat = k / 2 ^ j := by
      rw [Nat.toNat_testBit, Nat.pow_succ, ← Nat.div_div_eq_div_mul]; omega
    exact e ▸ step r _ _ h

/-- What the loop computes: a relation between the accumulator and the bits read so far, if it holds of
`one` and 0 and every round keeps it, holds of the result and k. -/
theorem msbLoop_rel {α : Type} (R : α → Nat → Prop) (mul : α → α → α) (one a : α) (k : Nat)
    (zero : R one 0) (step : ∀ r m b, R r m → R (msbRound mul a r b) (2 * m + b.toNat)) :
    R (msbLoop mul one a k) k := by
  refine bitsBelow_foldl R _ step k (bitLen k) one ?_
  have : k / 2 ^ bitLen k = 0 := by
    unfold bitLen; split
    · simp [*]
    · exact Nat.div_eq_of_lt Nat.lt_log2_self
  rwa [this]
/-- a^e mod m. -/
def powMod (m a e : Nat) : Nat :=
  msbLoop (fun r s => r * s % m) (1 % m) (a % m) e

/-- `be(s)`: the big-endian value of a byte string (R16). -/
def beNat (s : List Byte) : Nat :=
  s.foldl (fun v b => 256 * v + b.toNat) 0

/-- `bytes_be(v, L)`: the L bytes with big-endian value v, for v < 2^(8L) (R16). -/
def bytesBE (v : Nat) : Nat → List Byte
  | 0 => []
  | l + 1 => BitVec.ofNat 8 (v / 256 ^ l) :: bytesBE v l

end Sys2Proof
end

