-- ==== Sys2Proof/Machine/Params.lean ====
section
/-!
DEFINITION. The parameter record of the engine (R10, R12): the moduli, the non-residue, the generators,
the constants derived from them, and the Miller and pairing functions. The values are open (D36); what
the rules rely on is Params.Valid (Machine/ParamsValid.lean).
-/

namespace Sys2Proof

/-- The open parameters of R10 and the derived constants of R12, R232 and R262 (R65, R503). Field elements
are held as Montgomery words; Fp2 constants that lie in Fp have x = 0. `ONE_M`, `R2`, `B1` and `GTGEN` are
Fp.one, Fp.r2, b1 and gtGen of the record. -/
structure Params where
  /-- `P_MOD`, the field modulus p. -/
  p : Nat
  /-- `N_ORD`, the subgroup order n. -/
  n : Nat
  /-- `RINV` = R⁻¹ mod p (R12). -/
  rInv : Nat
  /-- `PPRIME` = −p⁻¹ mod R (R12). -/
  pPrime : Nat
  /-- `XI`, the non-residue ξ. -/
  xi : Fp2
  /-- `B2` = 3/ξ, the curve constant of the twist (R340). -/
  b2 : Fp2
  /-- `XI_P1_3` = ξ^((p−1)/3) (R232). -/
  xiP1d3 : Fp2
  /-- `XI_2P1_3` = ξ^(2(p−1)/3) (R232). -/
  xi2P1d3 : Fp2
  /-- `XI_P2_3` = ξ^((p²−1)/3) (R232). -/
  xiP2d3 : Fp2
  /-- `XI_2P2_3` = ξ^(2(p²−1)/3) (R232). -/
  xi2P2d3 : Fp2
  /-- `XI_P1_6` = ξ^((p−1)/6) (R262). -/
  xiP1d6 : Fp2
  /-- `XI_P2_6` = ξ^((p²−1)/6) (R262). -/
  xiP2d6 : Fp2
  /-- `G1GEN`, x coordinate. -/
  g1x : MontWord
  /-- `G1GEN`, y coordinate. -/
  g1y : MontWord
  /-- `G2GEN`, x coordinate. -/
  g2x : Fp2
  /-- `G2GEN`, y coordinate. -/
  g2y : Fp2
  /-- `MILLER_FN` on the affine images (xP, yP), (xQ, yQ) (R404). -/
  millerFn : MontWord → MontWord → Fp2 → Fp2 → Fp12
  /-- `PAIR_FN` on the affine images (xP, yP), (xQ, yQ) (R402). -/
  pairFn : MontWord → MontWord → Fp2 → Fp2 → Fp12
  /-- `U_PARAM`, the curve parameter u (R10). No rule reads it (log 21). -/
  uParam : Int
  /-- `BETA`, the constant of the G1 multiplier's endomorphism (R10, R372), a Montgomery word. No command's
  result depends on it (log 21). -/
  beta : MontWord
  /-- The lattice basis of the G1 multiplier (R10, R372), two vectors. No command's result depends on it
  (log 21). -/
  latticeBasis : (Int × Int) × (Int × Int)

end Sys2Proof
end

