-- ==== Sys2Proof/Machine/ArithFp.lean ====
section
/-!
DEFINITION. Fp arithmetic on Montgomery words (40_fp R160 to R183). Every result is reduced modulo p, so
it is canonical whatever the operands hold (R163).
-/

namespace Sys2Proof

/-- R = 2^256 (R9). -/
def montR : Nat := 2 ^ 256

/-- The canonical word of an integer. -/
def Fp.reduce (c : Params) (v : Nat) : MontWord :=
  BitVec.ofNat 256 (v % c.p)

/-- A word in [0, p) (R43, R163). -/
abbrev Fp.Canonical (c : Params) (a : MontWord) : Prop :=
  a.toNat < c.p

/-- `mont_enc(v)` = v·R mod p (R164); `mont(a)` for a < p (R17). -/
def Fp.enc (c : Params) (v : Nat) : MontWord :=
  Fp.reduce c (v * montR)

/-- `mont_dec(A)` = `val(A)` = A·RINV mod p (R17, R164). -/
def Fp.val (c : Params) (a : MontWord) : Nat :=
  a.toNat * c.rInv % c.p

/-- The word 0 (R172). -/
def Fp.zero : MontWord := 0

/-- `ONE_M` = R mod p (R12, R173). -/
def Fp.one (c : Params) : MontWord :=
  Fp.reduce c montR

/-- `R2` = R² mod p (R12), which the encoding multiplies by (R164: mont_enc(v) = mont_mul(v, R2)). -/
def Fp.r2 (c : Params) : MontWord :=
  Fp.reduce c (montR * montR)

/-- R166: (A + B) mod p, the sum not truncated. -/
def Fp.add (c : Params) (a b : MontWord) : MontWord :=
  Fp.reduce c (a.toNat + b.toNat)

/-- R168: (−A) mod p. -/
def Fp.neg (c : Params) (a : MontWord) : MontWord :=
  Fp.reduce c (c.p - a.toNat % c.p)

/-- R167: (A − B) mod p. -/
def Fp.sub (c : Params) (a b : MontWord) : MontWord :=
  Fp.reduce c (a.toNat + (c.p - b.toNat % c.p))

/-- `mont_mul(A, B)` = A·B·RINV mod p (R161, R169). -/
def Fp.mul (c : Params) (a b : MontWord) : MontWord :=
  Fp.reduce c (a.toNat * b.toNat * c.rInv)

/-- R170: the square. -/
def Fp.sqr (c : Params) (a : MontWord) : MontWord :=
  Fp.mul c a a

/-- R171: mont(val(A)⁻¹ mod p); the inverse is val(A)^(p−2) mod p, p being prime. -/
def Fp.inv (c : Params) (a : MontWord) : MontWord :=
  Fp.enc c (powMod c.p (Fp.val c a) (c.p - 2))

/-- The 32 bytes of one limb (R84). -/
def Fp.toBytes (c : Params) (a : MontWord) : List Byte :=
  bytesBE (Fp.val c a) 32

/-- Limb j of a byte string, as an integer (R85). -/
def limbNat (s : List Byte) (j : Nat) : Nat :=
  beNat ((s.drop (32 * j)).take 32)

/-- Limb j of a byte string, decoded: mont(v mod p) (R85). -/
def Fp.ofLimb (c : Params) (s : List Byte) (j : Nat) : MontWord :=
  Fp.enc c (limbNat s j)

end Sys2Proof
end

