-- ==== Sys2Proof/Machine/ArithFp2.lean ====
section
/-!
DEFINITION. Fp2 arithmetic (41_fp2 R200 to R220), components in Fp.
-/

namespace Sys2Proof

/-- Both components are in [0, p) (R56, R163). -/
abbrev Fp2.Canonical (c : Params) (a : Fp2) : Prop :=
  Fp.Canonical c a.x ∧ Fp.Canonical c a.y

/-- (0, 0) (R200). -/
def Fp2.zero : Fp2 := ⟨Fp.zero, Fp.zero⟩

/-- (0, 1), stored as (0, ONE_M) (R200). -/
def Fp2.one (c : Params) : Fp2 := ⟨Fp.zero, Fp.one c⟩

/-- R203. -/
def Fp2.add (c : Params) (a b : Fp2) : Fp2 :=
  ⟨Fp.add c a.x b.x, Fp.add c a.y b.y⟩

/-- R204. -/
def Fp2.sub (c : Params) (a b : Fp2) : Fp2 :=
  ⟨Fp.sub c a.x b.x, Fp.sub c a.y b.y⟩

/-- R205. -/
def Fp2.neg (c : Params) (a : Fp2) : Fp2 :=
  ⟨Fp.neg c a.x, Fp.neg c a.y⟩

/-- The product row of R201, with i·i = −1. -/
def Fp2.mul (c : Params) (a b : Fp2) : Fp2 :=
  ⟨Fp.add c (Fp.mul c a.x b.y) (Fp.mul c a.y b.x),
   Fp.sub c (Fp.mul c a.y b.y) (Fp.mul c a.x b.x)⟩

/-- The square row of R201: (2·x·y, (y − x)·(y + x)). -/
def Fp2.sqr (c : Params) (a : Fp2) : Fp2 :=
  ⟨Fp.add c (Fp.mul c a.x a.y) (Fp.mul c a.x a.y),
   Fp.mul c (Fp.sub c a.y a.x) (Fp.add c a.y a.x)⟩

/-- conj(a) = (−x, y) (R201, R218). -/
def Fp2.conj (c : Params) (a : Fp2) : Fp2 :=
  ⟨Fp.neg c a.x, a.y⟩

/-- norm(a) = x² + y² (R201). -/
def Fp2.norm (c : Params) (a : Fp2) : MontWord :=
  Fp.add c (Fp.mul c a.x a.x) (Fp.mul c a.y a.y)

/-- R208: conjugate scaled by the inverse of the norm. -/
def Fp2.inv (c : Params) (a : Fp2) : Fp2 :=
  ⟨Fp.mul c (Fp.neg c a.x) (Fp.inv c (Fp2.norm c a)), Fp.mul c a.y (Fp.inv c (Fp2.norm c a))⟩

/-- R217: the product with ξ. -/
def Fp2.mulXi (c : Params) (a : Fp2) : Fp2 :=
  Fp2.mul c a c.xi

/-- a^e. -/
def Fp2.pow (c : Params) (a : Fp2) (e : Nat) : Fp2 :=
  msbLoop (Fp2.mul c) (Fp2.one c) a e

/-- The 64 bytes of R86: the limb of x, then the limb of y. -/
def Fp2.toBytes (c : Params) (a : Fp2) : List Byte :=
  Fp.toBytes c a.x ++ Fp.toBytes c a.y

/-- The element whose limbs are limb j and limb j + 1 of a byte string (R86, R85). -/
def Fp2.ofLimbs (c : Params) (s : List Byte) (j : Nat) : Fp2 :=
  ⟨Fp.ofLimb c s j, Fp.ofLimb c s (j + 1)⟩

end Sys2Proof
end

