-- ==== Sys2Proof/Machine/ArithFp6.lean ====
section
/-!
DEFINITION. Fp6 arithmetic and its Frobenius maps (42_fp6 R230 to R252), components in Fp2.
-/

namespace Sys2Proof

/-- All six words are in [0, p) (R57, R163). -/
abbrev Fp6.Canonical (c : Params) (a : Fp6) : Prop :=
  Fp2.Canonical c a.x ∧ Fp2.Canonical c a.y ∧ Fp2.Canonical c a.z

/-- R240. -/
def Fp6.zero : Fp6 := ⟨Fp2.zero, Fp2.zero, Fp2.zero⟩

/-- R241. -/
def Fp6.one (c : Params) : Fp6 := ⟨Fp2.zero, Fp2.zero, Fp2.one c⟩

/-- R234. -/
def Fp6.add (c : Params) (a b : Fp6) : Fp6 :=
  ⟨Fp2.add c a.x b.x, Fp2.add c a.y b.y, Fp2.add c a.z b.z⟩

/-- R235. -/
def Fp6.sub (c : Params) (a b : Fp6) : Fp6 :=
  ⟨Fp2.sub c a.x b.x, Fp2.sub c a.y b.y, Fp2.sub c a.z b.z⟩

/-- R236. -/
def Fp6.neg (c : Params) (a : Fp6) : Fp6 :=
  ⟨Fp2.neg c a.x, Fp2.neg c a.y, Fp2.neg c a.z⟩

/-- The product row of R231, with τ³ = ξ. -/
def Fp6.mul (c : Params) (a b : Fp6) : Fp6 :=
  ⟨Fp2.add c (Fp2.add c (Fp2.mul c a.x b.z) (Fp2.mul c a.y b.y)) (Fp2.mul c a.z b.x),
   Fp2.add c (Fp2.add c (Fp2.mul c a.y b.z) (Fp2.mul c a.z b.y)) (Fp2.mulXi c (Fp2.mul c a.x b.x)),
   Fp2.add c (Fp2.mul c a.z b.z)
     (Fp2.mulXi c (Fp2.add c (Fp2.mul c a.x b.y) (Fp2.mul c a.y b.x)))⟩

/-- R238. -/
def Fp6.sqr (c : Params) (a : Fp6) : Fp6 :=
  Fp6.mul c a a

/-- R249: (y, z, ξ·x). -/
def Fp6.mulTau (c : Params) (a : Fp6) : Fp6 :=
  ⟨a.y, a.z, Fp2.mulXi c a.x⟩

/-- s·a for s in Fp2 (R231). -/
def Fp6.scale (c : Params) (s : Fp2) (a : Fp6) : Fp6 :=
  ⟨Fp2.mul c s a.x, Fp2.mul c s a.y, Fp2.mul c s a.z⟩

/-- The three cofactors (C, B, A) of R233. -/
def Fp6.cofactor (c : Params) (a : Fp6) : Fp6 :=
  ⟨Fp2.sub c (Fp2.mul c a.y a.y) (Fp2.mul c a.x a.z),
   Fp2.sub c (Fp2.mulXi c (Fp2.mul c a.x a.x)) (Fp2.mul c a.y a.z),
   Fp2.sub c (Fp2.mul c a.z a.z) (Fp2.mulXi c (Fp2.mul c a.x a.y))⟩

/-- F of R233: the norm of a over Fp2. -/
def Fp6.norm (c : Params) (a : Fp6) : Fp2 :=
  let m := Fp6.cofactor c a
  Fp2.add c (Fp2.add c (Fp2.mulXi c (Fp2.mul c m.x a.y)) (Fp2.mul c m.z a.z))
    (Fp2.mulXi c (Fp2.mul c m.y a.x))

/-- R233: (C·F⁻¹, B·F⁻¹, A·F⁻¹). -/
def Fp6.inv (c : Params) (a : Fp6) : Fp6 :=
  Fp6.scale c (Fp2.inv c (Fp6.norm c a)) (Fp6.cofactor c a)

/-- R246: the p-power map. -/
def Fp6.frob (c : Params) (a : Fp6) : Fp6 :=
  ⟨Fp2.mul c (Fp2.conj c a.x) c.xi2P1d3, Fp2.mul c (Fp2.conj c a.y) c.xiP1d3, Fp2.conj c a.z⟩

/-- R247: the p²-power map. -/
def Fp6.frobP2 (c : Params) (a : Fp6) : Fp6 :=
  ⟨Fp2.mul c a.x c.xi2P2d3, Fp2.mul c a.y c.xiP2d3, a.z⟩

/-- R248: the p⁴-power map. -/
def Fp6.frobP4 (c : Params) (a : Fp6) : Fp6 :=
  ⟨Fp2.mul c a.x c.xiP2d3, Fp2.mul c a.y c.xi2P2d3, a.z⟩

end Sys2Proof
end

