-- ==== Sys2Proof/Machine/ArithFp12.lean ====
section
/-!
DEFINITION. Fp12 arithmetic, conjugation, Frobenius maps and exponentiation (43_fp12 R260 to R287),
components in Fp6, and the 384-byte format (R87).
-/

namespace Sys2Proof

/-- All twelve words are in [0, p) (R58, R163). -/
abbrev Fp12.Canonical (c : Params) (a : Fp12) : Prop :=
  Fp6.Canonical c a.x ∧ Fp6.Canonical c a.y

/-- R270. -/
def Fp12.zero : Fp12 := ⟨Fp6.zero, Fp6.zero⟩

/-- R271, the identity of GT. -/
def Fp12.one (c : Params) : Fp12 := ⟨Fp6.zero, Fp6.one c⟩

/-- R264. -/
def Fp12.add (c : Params) (a b : Fp12) : Fp12 :=
  ⟨Fp6.add c a.x b.x, Fp6.add c a.y b.y⟩

/-- R265. -/
def Fp12.sub (c : Params) (a b : Fp12) : Fp12 :=
  ⟨Fp6.sub c a.x b.x, Fp6.sub c a.y b.y⟩

/-- R266. -/
def Fp12.neg (c : Params) (a : Fp12) : Fp12 :=
  ⟨Fp6.neg c a.x, Fp6.neg c a.y⟩

/-- The product row of R261, with ω² = τ. -/
def Fp12.mul (c : Params) (a b : Fp12) : Fp12 :=
  ⟨Fp6.add c (Fp6.mul c a.x b.y) (Fp6.mul c a.y b.x),
   Fp6.add c (Fp6.mul c a.y b.y) (Fp6.mulTau c (Fp6.mul c a.x b.x))⟩

/-- R268. -/
def Fp12.sqr (c : Params) (a : Fp12) : Fp12 :=
  Fp12.mul c a a

/-- conj(a) = (−x, y) (R261, R281). -/
def Fp12.conj (c : Params) (a : Fp12) : Fp12 :=
  ⟨Fp6.neg c a.x, a.y⟩

/-- norm(a) = y² − x²·τ (R261). -/
def Fp12.norm (c : Params) (a : Fp12) : Fp6 :=
  Fp6.sub c (Fp6.mul c a.y a.y) (Fp6.mulTau c (Fp6.mul c a.x a.x))

/-- R263: the conjugate scaled by the inverse of the norm. -/
def Fp12.inv (c : Params) (a : Fp12) : Fp12 :=
  let m := Fp6.inv c (Fp12.norm c a)
  ⟨Fp6.mul c (Fp6.neg c a.x) m, Fp6.mul c a.y m⟩

/-- R282: a^e by square and multiply, the most significant bit first. -/
def Fp12.pow (c : Params) (a : Fp12) (e : Nat) : Fp12 :=
  msbLoop (Fp12.mul c) (Fp12.one c) a e

/-- R278: the p-power map. -/
def Fp12.frob (c : Params) (a : Fp12) : Fp12 :=
  ⟨Fp6.scale c c.xiP1d6 (Fp6.frob c a.x), Fp6.frob c a.y⟩

/-- R279: the p²-power map. -/
def Fp12.frobP2 (c : Params) (a : Fp12) : Fp12 :=
  ⟨Fp6.scale c c.xiP2d6 (Fp6.frobP2 c a.x), Fp6.frobP2 c a.y⟩

/-- R280: the p⁴-power map. -/
def Fp12.frobP4 (c : Params) (a : Fp12) : Fp12 :=
  ⟨Fp6.scale c c.xiP2d3 (Fp6.frobP4 c a.x), Fp6.frobP4 c a.y⟩

/-- The 384 bytes of R87: twelve limbs, x before y at every level. -/
def Fp12.toBytes (c : Params) (a : Fp12) : List Byte :=
  Fp2.toBytes c a.x.x ++ Fp2.toBytes c a.x.y ++ Fp2.toBytes c a.x.z ++
  Fp2.toBytes c a.y.x ++ Fp2.toBytes c a.y.y ++ Fp2.toBytes c a.y.z

/-- R277: the element whose limbs 0 to 11 are those of a byte string. -/
def Fp12.ofBytes (c : Params) (s : List Byte) : Fp12 :=
  ⟨⟨Fp2.ofLimbs c s 0, Fp2.ofLimbs c s 2, Fp2.ofLimbs c s 4⟩,
   ⟨Fp2.ofLimbs c s 6, Fp2.ofLimbs c s 8, Fp2.ofLimbs c s 10⟩⟩

end Sys2Proof
end

