-- ==== Sys2Proof/Machine/ArithCurve.lean ====
section
/-!
DEFINITION. The curve groups: affine images of Jacobian quadruples (R25), the group law (R311, R341),
scalar multiplication (R371, R375), the validity predicates (R316, R346), and the Jacobian
representatives that the rules leave open (R312, R322, R324). One text serves both coordinate fields.
-/

namespace Sys2Proof

/-- The operations of a coordinate field. -/
structure FieldOps (F : Type) where
  add  : F → F → F
  sub  : F → F → F
  neg  : F → F
  mul  : F → F → F
  inv  : F → F
  zero : F
  one  : F

/-- Fp as the coordinate field of G1. -/
def fpOps (c : Params) : FieldOps MontWord :=
  { add := Fp.add c, sub := Fp.sub c, neg := Fp.neg c, mul := Fp.mul c, inv := Fp.inv c,
    zero := Fp.zero, one := Fp.one c }

/-- Fp2 as the coordinate field of G2 (R340). -/
def fp2Ops (c : Params) : FieldOps Fp2 :=
  { add := Fp2.add c, sub := Fp2.sub c, neg := Fp2.neg c, mul := Fp2.mul c, inv := Fp2.inv c,
    zero := Fp2.zero, one := Fp2.one c }

/-- `aff(X, Y, Z, T)` (R25): INF when Z = 0, else (X/Z², Y/Z³). -/
def affineOf {F : Type} [DecidableEq F] (K : FieldOps F) (j : Jac F) : Aff F :=
  if j.z = K.zero then .inf
  else
    let zi := K.inv j.z
    let zi2 := K.mul zi zi
    .pt (K.mul j.x zi2) (K.mul j.y (K.mul zi2 zi))

/-- −P (R311). -/
def Aff.neg {F : Type} (K : FieldOps F) : Aff F → Aff F
  | .inf => .inf
  | .pt x y => .pt x (K.neg y)

/-- The third point of the line of slope `lam` through (x1, y1) and a point of abscissa x2 (R311). -/
def Aff.onLine {F : Type} (K : FieldOps F) (lam x1 y1 x2 : F) : Aff F :=
  let x3 := K.sub (K.sub (K.mul lam lam) x1) x2
  .pt x3 (K.sub (K.mul lam (K.sub x1 x3)) y1)

/-- The slope of the tangent, 3·x²/(2·y) (R311). -/
def tangentSlope {F : Type} (K : FieldOps F) (x y : F) : F :=
  K.mul (K.add (K.add (K.mul x x) (K.mul x x)) (K.mul x x)) (K.inv (K.add y y))

/-- The slope of the chord, (y2 − y1)/(x2 − x1) (R311). -/
def chordSlope {F : Type} (K : FieldOps F) (x1 y1 x2 y2 : F) : F :=
  K.mul (K.sub y2 y1) (K.inv (K.sub x2 x1))

/-- P ⊕ Q, the group law of R311. -/
def Aff.add {F : Type} [DecidableEq F] (K : FieldOps F) : Aff F → Aff F → Aff F
  | .inf, q => q
  | p, .inf => p
  | .pt x1 y1, .pt x2 y2 =>
    if x1 = x2 then
      if y1 = K.neg y2 then .inf
      else Aff.onLine K (tangentSlope K x1 y1) x1 y1 x2
    else Aff.onLine K (chordSlope K x1 y1 x2 y2) x1 y1 x2

/-- [k]P, by the double-and-add loop of R375, the reference of R371; k is not reduced. -/
def Aff.smul {F : Type} [DecidableEq F] (K : FieldOps F) (k : Nat) (p : Aff F) : Aff F :=
  msbLoop (Aff.add K) .inf p k

/-- (x, y) satisfies y² = x³ + b (R310). -/
def onCurveEq {F : Type} [DecidableEq F] (K : FieldOps F) (b x y : F) : Bool :=
  K.mul y y = K.add (K.mul (K.mul x x) x) b

/-- `B1` = mont(3) (R310). -/
def b1 (c : Params) : MontWord := Fp.enc c 3

/-- The validity predicate of G1 on affine images: the equation only (R316, R323). -/
def onCurve1 (c : Params) : Aff MontWord → Bool
  | .inf => true
  | .pt x y => onCurveEq (fpOps c) (b1 c) x y

/-- The validity predicate of G2 on affine images: the equation, and [n]P = INF (R346). -/
def onCurve2 (c : Params) : Aff Fp2 → Bool
  | .inf => true
  | .pt x y => onCurveEq (fp2Ops c) c.b2 x y && Aff.smul (fp2Ops c) c.n (.pt x y) == .inf

/-- `G1GEN` (R10). -/
def g1Gen (c : Params) : Aff MontWord := .pt c.g1x c.g1y

/-- `G2GEN` (R10). -/
def g2Gen (c : Params) : Aff Fp2 := .pt c.g2x c.g2y

/-- The quadruple that a command writes when it constructs infinity: (0, 1, 0, 0) (R61, R318, R348). -/
def Jac.infinity {F : Type} (K : FieldOps F) : Jac F :=
  ⟨K.zero, K.one, K.zero, K.zero⟩

/-- The representative (x, y, 1, 1) of a finite point (R315, R433). -/
def Jac.ofAffine {F : Type} (K : FieldOps F) (x y : F) : Jac F :=
  ⟨x, y, K.one, K.one⟩

/-- The values a point command leaves open: a scaling, and X, Y, T of a result (U4, U5, U6). -/
structure PointDraw (F : Type) where
  scale : F
  x : F
  y : F
  t : F

/-- The quadruple with affine image `p` that a draw selects (R312, R322, R324): (λ²x, λ³y, λ, t) with
λ ≠ 0 for a finite point, (x, y, 0, t) for INF. As the draw ranges over all values, the quadruple ranges
over all with this affine image. -/
def Jac.drawn {F : Type} [DecidableEq F] (K : FieldOps F) (d : PointDraw F) : Aff F → Jac F
  | .inf => ⟨d.x, d.y, K.zero, d.t⟩
  | .pt x y =>
    let l := if d.scale = K.zero then K.one else d.scale
    let l2 := K.mul l l
    ⟨K.mul l2 x, K.mul (K.mul l2 l) y, l, d.t⟩

/-- R315, R345: infinity copied as it is, else (X/Z², Y/Z³, 1, 1). DESIGN CHOICE (log 25): for an infinite
point 93_implementation_defined U6 says that AFF writes (0, 1, 0, 0); the copy is that of R315, R324 and
R345. -/
def Jac.normalise {F : Type} [DecidableEq F] (K : FieldOps F) (j : Jac F) : Jac F :=
  match affineOf K j with
  | .inf => j
  | .pt x y => Jac.ofAffine K x y

/-- All four coordinates are canonical. -/
abbrev Jac.All {F : Type} (good : F → Prop) (j : Jac F) : Prop :=
  good j.x ∧ good j.y ∧ good j.z ∧ good j.t

/-- The 64 bytes of a G1 point (R88). -/
def g1Bytes (c : Params) : Aff MontWord → List Byte
  | .inf => List.replicate 64 0
  | .pt x y => Fp.toBytes c x ++ Fp.toBytes c y

/-- The 128 bytes of a G2 point (R89). -/
def g2Bytes (c : Params) : Aff Fp2 → List Byte
  | .inf => List.replicate 128 0
  | .pt x y => Fp2.toBytes c x ++ Fp2.toBytes c y

end Sys2Proof
end

