-- ==== Sys2Proof/Machine/ArithPairing.lean ====
section
/-!
DEFINITION. The pairing engine's mathematics (48_pairing R400 to R414): the final exponent, MILLER and
PAIR on affine images with the infinite case, the product of PAIRCHK, and the generator of GT.
-/

namespace Sys2Proof

/-- E = (p¹² − 1)/n (R401). -/
def finalExponent (c : Params) : Nat :=
  (c.p ^ 12 - 1) / c.n

/-- FE(f) = f^E (R401). -/
def finalExp (c : Params) (f : Fp12) : Fp12 :=
  Fp12.pow c f (finalExponent c)

/-- R405: one where an operand is infinite, else MILLER_FN. -/
def millerOf (c : Params) : Aff MontWord → Aff Fp2 → Fp12
  | .pt xp yp, .pt xq yq => c.millerFn xp yp xq yq
  | _, _ => Fp12.one c

/-- R407: one where an operand is infinite, else PAIR_FN. -/
def pairOf (c : Params) : Aff MontWord → Aff Fp2 → Fp12
  | .pt xp yp, .pt xq yq => c.pairFn xp yp xq yq
  | _, _ => Fp12.one c

/-- The product of the raw values of PAIRCHK, a pair with an infinite member skipped (R408). -/
def millerProduct (c : Params) (pairs : List (Aff MontWord × Aff Fp2)) : Fp12 :=
  pairs.foldl
    (fun acc pq =>
      if pq.1 = .inf ∨ pq.2 = .inf then acc else Fp12.mul c acc (millerOf c pq.1 pq.2))
    (Fp12.one c)

/-- `GTGEN` = PAIR_FN(G1GEN, G2GEN) (R12, R283). -/
def gtGen (c : Params) : Fp12 :=
  c.pairFn c.g1x c.g1y c.g2x c.g2y

end Sys2Proof
end

