-- ==== Sys2Proof/Machine/ParamsValid.lean ====
section
/-!
DEFINITION. What the rules rely on of the open parameters (00_scope R10, R12, R13, R14; 42_fp6 R232;
43_fp12 R262, R284; 47_scalar_mult R372; 48_pairing R402, R404).
-/

namespace Sys2Proof

/-- The affine points of y² = x³ + 3 with canonical coordinates, counted (R14). -/
def pointCount1 (c : Params) : Nat :=
  ((List.range c.p).map fun x => (List.range c.p).countP fun y =>
    onCurveEq (fpOps c) (b1 c) (BitVec.ofNat 256 x) (BitVec.ofNat 256 y)).sum

/-- Every canonical Fp2 value, once. -/
def fp2Range (c : Params) : List Fp2 :=
  (List.range c.p).flatMap fun x => (List.range c.p).map fun y =>
    ⟨BitVec.ofNat 256 x, BitVec.ofNat 256 y⟩

/-- The affine points of y² = x³ + 3/ξ with canonical coordinates, counted (R14). -/
def pointCount2 (c : Params) : Nat :=
  ((fp2Range c).map fun x => (fp2Range c).countP fun y => onCurveEq (fp2Ops c) c.b2 x y).sum

/-- (x, y) is a finite affine point of G1: canonical, and on the curve (R10, R310). -/
structure IsPoint1 (c : Params) (x y : MontWord) : Prop where
  x_canonical : Fp.Canonical c x
  y_canonical : Fp.Canonical c y
  on_curve : onCurve1 c (.pt x y) = true

/-- (x, y) is a finite affine point of G2: canonical, on the twist, of order n (R10, R340). -/
structure IsPoint2 (c : Params) (x y : Fp2) : Prop where
  x_canonical : Fp2.Canonical c x
  y_canonical : Fp2.Canonical c y
  on_curve : onCurve2 c (.pt x y) = true

/-- What R372 says of BETA and the lattice basis, for the scalar λ it calls LAMBDA: (x, y) ↦ (BETA·x, y) is
[λ] on G1, and the basis spans the pairs (a, b) with a + b·λ ≡ 0 modulo n (93_implementation_defined G9;
log 21). -/
structure IsEndomorphism (c : Params) (lam : Nat) : Prop where
  multiple : ∀ x y, IsPoint1 c x y →
    Aff.smul (fpOps c) lam (.pt x y) = .pt (Fp.mul c c.beta x) y
  first_mem : (c.latticeBasis.1.1 + c.latticeBasis.1.2 * lam) % c.n = 0
  second_mem : (c.latticeBasis.2.1 + c.latticeBasis.2.2 * lam) % c.n = 0
  spans : (c.latticeBasis.1.1 * c.latticeBasis.2.2 - c.latticeBasis.1.2 * c.latticeBasis.2.1).natAbs =
    c.n

/-- The constraints the rules rely on, and the definitions of the precomputed constants. -/
structure Params.Valid (c : Params) : Prop where
  /-- R10: p is prime. -/
  p_prime : c.p.Prime
  /-- R10: p < 2^256. -/
  p_lt : c.p < montR
  /-- R10: p ≡ 7 (mod 12), which is p odd, p ≡ 3 (mod 4) and p ≡ 1 (mod 6) together. -/
  p_mod : c.p % 12 = 7
  /-- R12: RINV is a residue. -/
  rInv_lt : c.rInv < c.p
  /-- R12: RINV inverts R modulo p. -/
  rInv_mul : c.rInv * montR % c.p = 1
  /-- R12: PPRIME is a residue modulo R. -/
  pPrime_lt : c.pPrime < montR
  /-- R12: PPRIME = −p⁻¹ mod R. -/
  pPrime_mul : (c.p * c.pPrime + 1) % montR = 0
  /-- R10: n is prime. -/
  n_prime : c.n.Prime
  /-- R379: a scalar below n fits 32 bytes. -/
  n_lt : c.n < montR
  /-- R10: n divides p¹² − 1. -/
  n_dvd : c.n ∣ c.p ^ 12 - 1
  /-- R284: n divides p⁴ − p² + 1. -/
  n_dvd_cyclotomic : c.n ∣ c.p ^ 4 - c.p ^ 2 + 1
  /-- R163: the words of ξ are canonical. -/
  xi_canonical : Fp2.Canonical c c.xi
  /-- R10: ξ ≠ 0. -/
  xi_ne_zero : c.xi ≠ Fp2.zero
  /-- R10, R13: ξ is no square in Fp2. -/
  xi_not_square : ∀ a, Fp2.Canonical c a → Fp2.mul c a a ≠ c.xi
  /-- R10, R13: ξ is no cube in Fp2. -/
  xi_not_cube : ∀ a, Fp2.Canonical c a → Fp2.mul c (Fp2.mul c a a) a ≠ c.xi
  /-- R340: the words of B2 are canonical. -/
  b2_canonical : Fp2.Canonical c c.b2
  /-- R340: B2 = 3/ξ. -/
  b2_mul : Fp2.mul c c.b2 c.xi = ⟨Fp.zero, b1 c⟩
  /-- R232. -/
  xiP1d3_eq : c.xiP1d3 = Fp2.pow c c.xi ((c.p - 1) / 3)
  /-- R232. -/
  xi2P1d3_eq : c.xi2P1d3 = Fp2.pow c c.xi (2 * (c.p - 1) / 3)
  /-- R232. -/
  xiP2d3_eq : c.xiP2d3 = Fp2.pow c c.xi ((c.p ^ 2 - 1) / 3)
  /-- R232. -/
  xi2P2d3_eq : c.xi2P2d3 = Fp2.pow c c.xi (2 * (c.p ^ 2 - 1) / 3)
  /-- R262. -/
  xiP1d6_eq : c.xiP1d6 = Fp2.pow c c.xi ((c.p - 1) / 6)
  /-- R262. -/
  xiP2d6_eq : c.xiP2d6 = Fp2.pow c c.xi ((c.p ^ 2 - 1) / 6)
  /-- R14: #E(Fp) = n. -/
  card_g1 : pointCount1 c + 1 = c.n
  /-- R14: n divides #E'(Fp2) with quotient greater than 1. -/
  card_g2 : ∃ h, 1 < h ∧ pointCount2 c + 1 = h * c.n
  /-- R10: G1GEN is a finite point of G1. -/
  g1Gen_point : IsPoint1 c c.g1x c.g1y
  /-- R10: G2GEN is a finite point of G2. -/
  g2Gen_point : IsPoint2 c c.g2x c.g2y
  /-- R163, R404: MILLER_FN yields canonical words. -/
  miller_canonical : ∀ xp yp xq yq, Fp12.Canonical c (c.millerFn xp yp xq yq)
  /-- R402 (d): PAIR_FN yields canonical words. -/
  pair_canonical : ∀ xp yp xq yq, Fp12.Canonical c (c.pairFn xp yp xq yq)
  /-- R404 (b). -/
  miller_ne_zero : ∀ xp yp xq yq, IsPoint1 c xp yp → IsPoint2 c xq yq →
    c.millerFn xp yp xq yq ≠ Fp12.zero
  /-- R402 (e), R404 (c). -/
  pair_eq : ∀ xp yp xq yq, IsPoint1 c xp yp → IsPoint2 c xq yq →
    c.pairFn xp yp xq yq = finalExp c (c.millerFn xp yp xq yq)
  /-- R402 (a). -/
  pair_order : ∀ xp yp xq yq, IsPoint1 c xp yp → IsPoint2 c xq yq →
    Fp12.pow c (c.pairFn xp yp xq yq) c.n = Fp12.one c
  /-- R402 (b), in the first argument. -/
  pair_add_left : ∀ x1 y1 x2 y2 xq yq, IsPoint1 c x1 y1 → IsPoint1 c x2 y2 → IsPoint2 c xq yq →
    pairOf c (Aff.add (fpOps c) (.pt x1 y1) (.pt x2 y2)) (.pt xq yq) =
      Fp12.mul c (c.pairFn x1 y1 xq yq) (c.pairFn x2 y2 xq yq)
  /-- R402 (b), in the second argument. -/
  pair_add_right : ∀ xp yp x1 y1 x2 y2, IsPoint1 c xp yp → IsPoint2 c x1 y1 → IsPoint2 c x2 y2 →
    pairOf c (.pt xp yp) (Aff.add (fp2Ops c) (.pt x1 y1) (.pt x2 y2)) =
      Fp12.mul c (c.pairFn xp yp x1 y1) (c.pairFn xp yp x2 y2)
  /-- R402 (c). -/
  pair_nondegenerate : gtGen c ≠ Fp12.one c
  /-- R163: BETA is a canonical word. -/
  beta_canonical : Fp.Canonical c c.beta
  /-- R372. -/
  endomorphism : ∃ lam, IsEndomorphism c lam

end Sys2Proof
end

