-- ==== Sys2Proof/Machine/SmallParams.lean ====
section
/-!
DEFINITION. A small parameter record that meets Params.Valid: p = 7, n = 13, ξ = i + 2. It shows that the
constraints of R10 to R14, R402 and R404 can be met together; nothing evaluates the engine with it. The
twist has 52 points. GT is generated by one element of order 13, and the pairing is read off discrete
logarithms. Whole numbers below are plain values; R = 2^256 leaves 2 modulo 7.
-/

namespace Sys2Proof

/-- The Montgomery word of a residue modulo 7. -/
def smallWord (v : Nat) : MontWord := BitVec.ofNat 256 (2 * v % 7)

/-- An Fp12 element from its twelve plain components, in the order of R87. -/
def smallElt (a b c d e f g h i j k l : Nat) : Fp12 :=
  ⟨⟨⟨smallWord a, smallWord b⟩, ⟨smallWord c, smallWord d⟩, ⟨smallWord e, smallWord f⟩⟩,
   ⟨⟨smallWord g, smallWord h⟩, ⟨smallWord i, smallWord j⟩, ⟨smallWord k, smallWord l⟩⟩⟩

/-- [1]G to [12]G on y² = x³ + 3 over F7, with G = (1, 2). -/
def smallG1 : List (MontWord × MontWord) :=
  [
   (smallWord 1, smallWord 2), (smallWord 6, smallWord 3), (smallWord 2, smallWord 2),
   (smallWord 4, smallWord 5), (smallWord 3, smallWord 3), (smallWord 5, smallWord 3),
   (smallWord 5, smallWord 4), (smallWord 3, smallWord 4), (smallWord 4, smallWord 2),
   (smallWord 2, smallWord 5), (smallWord 6, smallWord 4), (smallWord 1, smallWord 5)]

/-- [1]H to [12]H on the twist over F49, with H of order 13. -/
def smallG2 : List (Fp2 × Fp2) :=
  [
   (⟨smallWord 1, smallWord 4⟩, ⟨smallWord 3, smallWord 4⟩),
   (⟨smallWord 5, smallWord 4⟩, ⟨smallWord 4, smallWord 1⟩),
   (⟨smallWord 4, smallWord 2⟩, ⟨smallWord 3, smallWord 4⟩),
   (⟨smallWord 2, smallWord 1⟩, ⟨smallWord 4, smallWord 3⟩),
   (⟨smallWord 3, smallWord 1⟩, ⟨smallWord 4, smallWord 1⟩),
   (⟨smallWord 6, smallWord 2⟩, ⟨smallWord 4, smallWord 1⟩),
   (⟨smallWord 6, smallWord 2⟩, ⟨smallWord 3, smallWord 6⟩),
   (⟨smallWord 3, smallWord 1⟩, ⟨smallWord 3, smallWord 6⟩),
   (⟨smallWord 2, smallWord 1⟩, ⟨smallWord 3, smallWord 4⟩),
   (⟨smallWord 4, smallWord 2⟩, ⟨smallWord 4, smallWord 3⟩),
   (⟨smallWord 5, smallWord 4⟩, ⟨smallWord 3, smallWord 6⟩),
   (⟨smallWord 1, smallWord 4⟩, ⟨smallWord 4, smallWord 3⟩)]

/-- The powers 0 to 12 of an element of order 13. -/
def smallGt : List Fp12 :=
  [
   smallElt 0 0 0 0 0 0 0 0 0 0 0 1,
   smallElt 5 0 0 4 2 5 3 2 4 0 4 4,
   smallElt 5 3 5 6 3 1 3 1 4 4 3 4,
   smallElt 6 0 0 4 4 3 6 4 2 0 4 4,
   smallElt 4 0 0 3 6 1 5 1 1 0 4 4,
   smallElt 3 6 5 6 5 4 5 4 1 1 3 4,
   smallElt 6 5 5 6 6 2 6 2 2 2 3 4,
   smallElt 1 2 2 1 1 5 6 2 2 2 3 4,
   smallElt 4 1 2 1 2 3 5 4 1 1 3 4,
   smallElt 3 0 0 4 1 6 5 1 1 0 4 4,
   smallElt 1 0 0 3 3 4 6 4 2 0 4 4,
   smallElt 2 4 2 1 4 6 3 1 4 4 3 4,
   smallElt 2 0 0 3 5 2 3 2 4 0 4 4]

/-- The power of the table's element with exponent k. -/
def smallPow (k : Nat) : Fp12 := smallGt.getD (k % 13) Fp12.zero

/-- The k with (x, y) = [k]G, and 13 for any other pair. -/
def smallLog1 (x y : MontWord) : Nat := smallG1.idxOf (x, y) + 1

/-- The k with (x, y) = [k]H, and 13 for any other pair. -/
def smallLog2 (x y : Fp2) : Nat := smallG2.idxOf (x, y) + 1

/-- The record. -/
def smallParams : Params :=
  { p := 7, n := 13, rInv := 4
    pPrime := 0x9249249249249249249249249249249249249249249249249249249249249249
    xi := ⟨smallWord 1, smallWord 2⟩
    b2 := ⟨smallWord 5, smallWord 4⟩
    xiP1d3 := ⟨smallWord 4, smallWord 3⟩
    xi2P1d3 := ⟨smallWord 3, smallWord 0⟩
    xiP2d3 := ⟨smallWord 0, smallWord 4⟩
    xi2P2d3 := ⟨smallWord 0, smallWord 2⟩
    xiP1d6 := ⟨smallWord 1, smallWord 2⟩
    xiP2d6 := ⟨smallWord 0, smallWord 5⟩
    g1x := smallWord 1
    g1y := smallWord 2
    g2x := ⟨smallWord 1, smallWord 4⟩
    g2y := ⟨smallWord 3, smallWord 4⟩
    millerFn := fun xp yp xq yq => smallPow (3 * (smallLog1 xp yp * smallLog2 xq yq))
    pairFn := fun xp yp xq yq => smallPow (smallLog1 xp yp * smallLog2 xq yq)
    uParam := 0
    beta := smallWord 2
    latticeBasis := ((1, 4), (-3, 1)) }

/-! ### The record meets the constraints -/

theorem small_word_eq {x : MontWord} (h : Fp.Canonical smallParams x) :
    ∃ a ∈ List.range 7, x = BitVec.ofNat 256 a :=
  ⟨x.toNat, List.mem_range.2 h, by simp⟩

theorem small_fp2_mem {a : Fp2} (h : Fp2.Canonical smallParams a) : a ∈ fp2Range smallParams := by
  obtain ⟨x, hx, ex⟩ := small_word_eq h.1
  obtain ⟨y, hy, ey⟩ := small_word_eq h.2
  cases a
  simp only at ex ey
  subst ex ey
  exact List.mem_flatMap.2 ⟨x, hx, List.mem_map.2 ⟨y, hy, rfl⟩⟩

theorem small_mem1_table : ∀ a ∈ List.range 7, ∀ b ∈ List.range 7,
    onCurve1 smallParams (.pt (BitVec.ofNat 256 a) (BitVec.ofNat 256 b)) = true →
      (BitVec.ofNat 256 a, BitVec.ofNat 256 b) ∈ smallG1 := by
  decide +kernel

theorem small_mem1 {x y : MontWord} (h : IsPoint1 smallParams x y) : (x, y) ∈ smallG1 := by
  obtain ⟨a, ha, rfl⟩ := small_word_eq h.x_canonical
  obtain ⟨b, hb, rfl⟩ := small_word_eq h.y_canonical
  exact small_mem1_table a ha b hb h.on_curve

theorem small_mem2_table : ∀ a ∈ fp2Range smallParams, ∀ b ∈ fp2Range smallParams,
    onCurve2 smallParams (.pt a b) = true → (a, b) ∈ smallG2 := by
  decide +kernel

theorem small_mem2 {x y : Fp2} (h : IsPoint2 smallParams x y) : (x, y) ∈ smallG2 :=
  small_mem2_table x (small_fp2_mem h.x_canonical) y (small_fp2_mem h.y_canonical) h.on_curve

theorem small_pow_table : ∀ i ∈ List.range 13,
    Fp12.Canonical smallParams (smallPow i) ∧ smallPow i ≠ Fp12.zero := by
  decide +kernel

theorem small_mul_table : ∀ i ∈ List.range 13, ∀ j ∈ List.range 13,
    Fp12.mul smallParams (smallPow i) (smallPow j) = smallPow (i + j) := by
  decide +kernel

theorem smallPow_congr {i j : Nat} (h : i % 13 = j % 13) : smallPow i = smallPow j := by
  simp [smallPow, h]

theorem smallPow_mod (k : Nat) : smallPow k = smallPow (k % 13) :=
  smallPow_congr (Nat.mod_mod k 13).symm

theorem small_mod_mem (k : Nat) : k % 13 ∈ List.range 13 :=
  List.mem_range.2 (Nat.mod_lt k (by decide))

theorem small_mul (i j : Nat) :
    Fp12.mul smallParams (smallPow i) (smallPow j) = smallPow (i + j) := by
  rw [smallPow_mod i, smallPow_mod j, small_mul_table _ (small_mod_mem i) _ (small_mod_mem j)]
  exact smallPow_congr (Nat.add_mod i j 13).symm

theorem small_canonical (k : Nat) : Fp12.Canonical smallParams (smallPow k) := by
  rw [smallPow_mod]; exact (small_pow_table _ (small_mod_mem k)).1

theorem small_ne_zero (k : Nat) : smallPow k ≠ Fp12.zero := by
  rw [smallPow_mod]; exact (small_pow_table _ (small_mod_mem k)).2

theorem small_one : Fp12.one smallParams = smallPow 0 := by decide +kernel

theorem small_power (k e : Nat) : Fp12.pow smallParams (smallPow k) e = smallPow (e * k) :=
  msbLoop_rel (fun r m => r = smallPow (m * k)) _ _ _ e (by rw [small_one, Nat.zero_mul])
    (fun r m b h => by
      subst h
      cases b <;>
        simp only [msbRound, small_mul, Bool.toNat_true, Bool.toNat_false, if_true, if_false,
          Bool.false_eq_true] <;> congr 1 <;> ring)

theorem small_order (k : Nat) :
    Fp12.pow smallParams (smallPow k) 13 = Fp12.one smallParams := by
  rw [small_power, small_one]; exact smallPow_congr (by omega)

theorem small_exponent : finalExponent smallParams = 1064714400 := by decide +kernel

theorem small_finalExp (k : Nat) :
    finalExp smallParams (smallPow (3 * k)) = smallPow k := by
  rw [finalExp, small_power, small_exponent]; exact smallPow_congr (by omega)

/-- The logarithm of an affine point of G1, 0 for INF. -/
def smallAff1 : Aff MontWord → Nat
  | .inf => 0
  | .pt x y => smallLog1 x y

/-- The logarithm of an affine point of G2, 0 for INF. -/
def smallAff2 : Aff Fp2 → Nat
  | .inf => 0
  | .pt x y => smallLog2 x y

theorem small_add1_table : (smallG1.all fun a => smallG1.all fun b =>
    smallAff1 (Aff.add (fpOps smallParams) (.pt a.1 a.2) (.pt b.1 b.2)) % 13 ==
      (smallLog1 a.1 a.2 + smallLog1 b.1 b.2) % 13) = true := by
  decide +kernel

theorem small_add1 : ∀ a ∈ smallG1, ∀ b ∈ smallG1,
    smallAff1 (Aff.add (fpOps smallParams) (.pt a.1 a.2) (.pt b.1 b.2)) % 13 =
      (smallLog1 a.1 a.2 + smallLog1 b.1 b.2) % 13 := fun a ha b hb =>
  eq_of_beq (List.all_eq_true.1 (List.all_eq_true.1 small_add1_table a ha) b hb)

theorem small_add2 : ∀ a ∈ smallG2, ∀ b ∈ smallG2,
    smallAff2 (Aff.add (fp2Ops smallParams) (.pt a.1 a.2) (.pt b.1 b.2)) % 13 =
      (smallLog2 a.1 a.2 + smallLog2 b.1 b.2) % 13 := by
  decide +kernel

theorem small_pairOf (p : Aff MontWord) (q : Aff Fp2) :
    pairOf smallParams p q = smallPow (smallAff1 p * smallAff2 q) := by
  cases p <;> cases q <;>
    simp only [pairOf, smallAff1, smallAff2, small_one, Nat.zero_mul, Nat.mul_zero] <;> rfl

theorem small_count2 : pointCount2 smallParams = 51 := by decide +kernel

theorem small_endomorphism_table : (smallG1.all fun a =>
    Aff.smul (fpOps smallParams) 3 (.pt a.1 a.2) ==
      .pt (Fp.mul smallParams smallParams.beta a.1) a.2) = true := by
  decide +kernel

theorem small_endomorphism : IsEndomorphism smallParams 3 where
  multiple := fun _ _ h => eq_of_beq (List.all_eq_true.1 small_endomorphism_table _ (small_mem1 h))
  first_mem := by decide +kernel
  second_mem := by decide +kernel
  spans := by decide +kernel

theorem smallParams_valid : smallParams.Valid where
  p_prime := by decide +kernel
  p_lt := by decide +kernel
  p_mod := by decide +kernel
  rInv_lt := by decide +kernel
  rInv_mul := by decide +kernel
  pPrime_lt := by decide +kernel
  pPrime_mul := by decide +kernel
  n_prime := by decide +kernel
  n_lt := by decide +kernel
  n_dvd := by decide +kernel
  n_dvd_cyclotomic := by decide +kernel
  xi_canonical := by decide +kernel
  xi_ne_zero := by decide +kernel
  xi_not_square := fun a h => by
    have t : ∀ a ∈ fp2Range smallParams, Fp2.mul smallParams a a ≠ smallParams.xi := by
      decide +kernel
    exact t a (small_fp2_mem h)
  xi_not_cube := fun a h => by
    have t : ∀ a ∈ fp2Range smallParams,
        Fp2.mul smallParams (Fp2.mul smallParams a a) a ≠ smallParams.xi := by
      decide +kernel
    exact t a (small_fp2_mem h)
  b2_canonical := by decide +kernel
  b2_mul := by decide +kernel
  xiP1d3_eq := by decide +kernel
  xi2P1d3_eq := by decide +kernel
  xiP2d3_eq := by decide +kernel
  xi2P2d3_eq := by decide +kernel
  xiP1d6_eq := by decide +kernel
  xiP2d6_eq := by decide +kernel
  card_g1 := by decide +kernel
  card_g2 := ⟨4, by decide, by rw [small_count2]; rfl⟩
  g1Gen_point := ⟨by decide +kernel, by decide +kernel, by decide +kernel⟩
  g2Gen_point := ⟨by decide +kernel, by decide +kernel, by decide +kernel⟩
  miller_canonical := fun _ _ _ _ => small_canonical _
  pair_canonical := fun _ _ _ _ => small_canonical _
  miller_ne_zero := fun _ _ _ _ _ _ => small_ne_zero _
  pair_eq := fun _ _ _ _ _ _ => (small_finalExp _).symm
  pair_order := fun _ _ _ _ _ _ => small_order _
  pair_add_left := fun x1 y1 x2 y2 xq yq h1 h2 _ => by
    have e := small_add1 _ (small_mem1 h1) _ (small_mem1 h2)
    have m : Fp12.mul smallParams (smallPow (smallLog1 x1 y1 * smallLog2 xq yq))
        (smallPow (smallLog1 x2 y2 * smallLog2 xq yq)) = _ := small_mul _ _
    rw [small_pairOf]
    refine Eq.trans (smallPow_congr ?_) m.symm
    rw [← Nat.add_mul]
    exact Nat.ModEq.mul_right _ e
  pair_add_right := fun xp yp x1 y1 x2 y2 _ h1 h2 => by
    have e := small_add2 _ (small_mem2 h1) _ (small_mem2 h2)
    have m : Fp12.mul smallParams (smallPow (smallLog1 xp yp * smallLog2 x1 y1))
        (smallPow (smallLog1 xp yp * smallLog2 x2 y2)) = _ := small_mul _ _
    rw [small_pairOf]
    refine Eq.trans (smallPow_congr ?_) m.symm
    rw [← Nat.mul_add]
    exact Nat.ModEq.mul_left _ e
  pair_nondegenerate := by decide +kernel
  beta_canonical := by decide +kernel
  endomorphism := ⟨3, small_endomorphism⟩

end Sys2Proof
end

