-- ==== Sys2Proof/Config.lean ====
section
/-!
DEFINITION. What an implementation fixes (00_scope R10, R11) and the free values, which the rules leave
open. An opaque constant has no value that a proof can see, so what is proved holds for every value.
-/

namespace Sys2Proof

/-- A parameter record together with the proof that it meets the constraints the rules rely on. The small
record makes the type inhabited, nothing else. -/
structure CheckedParams where
  record : { c : Params // c.Valid } := ⟨smallParams, smallParams_valid⟩
deriving Inhabited

/-- The parameters of R10 and R12. They are open (D36): any record that meets Params.Valid. Log 3. -/
opaque Config.checked : CheckedParams

/-- The parameter record of the engine. -/
abbrev Config.params : Params := Config.checked.record.val

/-- The constraints of R10 to R14, R232, R262, R402 and R404 hold of the engine's record. -/
theorem Config.params_valid : Config.params.Valid := Config.checked.record.property

/-- `N_FP`, the default of R11. Log 2. -/
abbrev Config.nFp : Nat := 16
/-- `N_FP2`, the default of R11. Log 2. -/
abbrev Config.nFp2 : Nat := 16
/-- `N_FP6`, the default of R11. Log 2. -/
abbrev Config.nFp6 : Nat := 16
/-- `N_FP12`, the default of R11. Log 2. -/
abbrev Config.nFp12 : Nat := 16
/-- `N_G1`, the default of R11. Log 2. -/
abbrev Config.nG1 : Nat := 16
/-- `N_G2`, the default of R11. Log 2. -/
abbrev Config.nG2 : Nat := 16
/-- `N_K`, the default of R11. Log 2. -/
abbrev Config.nK : Nat := 16
/-- `BUF_BYTES`, the default of R11. Log 2. -/
abbrev Config.bufBytes : Nat := 4096

/-- The two readings of the all-zero rule of `Unmarshal` (R436). -/
inductive AllZeroOn where
  /-- The test is on the input bytes. -/
  | bytes
  /-- The test is on the decoded coordinates. -/
  | values
deriving DecidableEq, Repr, Inhabited

/-- `ALLZERO_ON` (R11, R436). Log 14. -/
opaque Config.allZeroOn : AllZeroOn

/-- An answer of the entropy source (R66, R440). -/
inductive EntropyAnswer where
  | fail
  | scalar (s : Nat)
deriving DecidableEq, Repr, Inhabited

/-- The answer of the entropy source at a draw where no answer waits in the state (R66). Log 9. -/
opaque Config.freeAnswer : Nat → EntropyAnswer

/-- The words of a Jacobian representative that the rules leave open (U4, U5, U6): the draw, then the
place of the word in it. Log 8. -/
opaque Config.freeWord : Nat → Nat → MontWord

/-- What a host read of a byte that is not valid yields, at a draw (R67). Log 10. -/
opaque Config.freeByte : Nat → Byte

end Sys2Proof
end

