-- ==== Sys2Proof/Syntax.lean ====
section
/-!
DEFINITION. The command set: one constructor for each row of the opcode map (R128). A register operand
is the six-bit field of the command word (R121); the file it indexes is fixed by the command.
-/

namespace Sys2Proof

/-- The 103 commands of PBA-CORE (R128), with their operands in field order A, B, C, D. -/
inductive Instr where
  /-- `FP.ADD`, op 0x10, format DSS, R166. -/
  | fpAdd (rd ra rb : Field6)
  /-- `FP.SUB`, op 0x11, format DSS, R167. -/
  | fpSub (rd ra rb : Field6)
  /-- `FP.NEG`, op 0x12, format DS, R168. -/
  | fpNeg (rd ra : Field6)
  /-- `FP.MUL`, op 0x13, format DSS, R169. -/
  | fpMul (rd ra rb : Field6)
  /-- `FP.SQR`, op 0x14, format DS, R170. -/
  | fpSqr (rd ra : Field6)
  /-- `FP.INV`, op 0x15, format DS, R171. -/
  | fpInv (rd ra : Field6)
  /-- `FP.ZERO`, op 0x16, format D, R172. -/
  | fpZero (rd : Field6)
  /-- `FP.ONE`, op 0x17, format D, R173. -/
  | fpOne (rd : Field6)
  /-- `FP.ISZERO`, op 0x18, format S, R174. -/
  | fpIszero (ra : Field6)
  /-- `FP.ISONE`, op 0x19, format S, R175. -/
  | fpIsone (ra : Field6)
  /-- `FP.EQ`, op 0x1A, format SS, R176. -/
  | fpEq (ra rb : Field6)
  /-- `FP.MOV`, op 0x1B, format DS, R177. -/
  | fpMov (rd ra : Field6)
  /-- `FP.ENC`, op 0x1C, format S, R178. -/
  | fpEnc (ra : Field6)
  /-- `FP.DEC`, op 0x1D, format D, R179. -/
  | fpDec (rd : Field6)
  /-- `FP2.ADD`, op 0x20, format DSS, R203. -/
  | fp2Add (rd ra rb : Field6)
  /-- `FP2.SUB`, op 0x21, format DSS, R204. -/
  | fp2Sub (rd ra rb : Field6)
  /-- `FP2.NEG`, op 0x22, format DS, R205. -/
  | fp2Neg (rd ra : Field6)
  /-- `FP2.MUL`, op 0x23, format DSS, R206. -/
  | fp2Mul (rd ra rb : Field6)
  /-- `FP2.SQR`, op 0x24, format DS, R207. -/
  | fp2Sqr (rd ra : Field6)
  /-- `FP2.INV`, op 0x25, format DS, R208. -/
  | fp2Inv (rd ra : Field6)
  /-- `FP2.ZERO`, op 0x26, format D, R209. -/
  | fp2Zero (rd : Field6)
  /-- `FP2.ONE`, op 0x27, format D, R210. -/
  | fp2One (rd : Field6)
  /-- `FP2.ISZERO`, op 0x28, format S, R211. -/
  | fp2Iszero (ra : Field6)
  /-- `FP2.ISONE`, op 0x29, format S, R212. -/
  | fp2Isone (ra : Field6)
  /-- `FP2.EQ`, op 0x2A, format SS, R213. -/
  | fp2Eq (ra rb : Field6)
  /-- `FP2.MOV`, op 0x2B, format DS, R214. -/
  | fp2Mov (rd ra : Field6)
  /-- `FP2.ENC`, op 0x2C, format S, R215. -/
  | fp2Enc (ra : Field6)
  /-- `FP2.DEC`, op 0x2D, format D, R216. -/
  | fp2Dec (rd : Field6)
  /-- `FP2.MULXI`, op 0x2E, format DS, R217. -/
  | fp2Mulxi (rd ra : Field6)
  /-- `FP6.ADD`, op 0x30, format DSS, R234. -/
  | fp6Add (rd ra rb : Field6)
  /-- `FP6.SUB`, op 0x31, format DSS, R235. -/
  | fp6Sub (rd ra rb : Field6)
  /-- `FP6.NEG`, op 0x32, format DS, R236. -/
  | fp6Neg (rd ra : Field6)
  /-- `FP6.MUL`, op 0x33, format DSS, R237. -/
  | fp6Mul (rd ra rb : Field6)
  /-- `FP6.SQR`, op 0x34, format DS, R238. -/
  | fp6Sqr (rd ra : Field6)
  /-- `FP6.INV`, op 0x35, format DS, R239. -/
  | fp6Inv (rd ra : Field6)
  /-- `FP6.ZERO`, op 0x36, format D, R240. -/
  | fp6Zero (rd : Field6)
  /-- `FP6.ONE`, op 0x37, format D, R241. -/
  | fp6One (rd : Field6)
  /-- `FP6.ISZERO`, op 0x38, format S, R242. -/
  | fp6Iszero (ra : Field6)
  /-- `FP6.ISONE`, op 0x39, format S, R243. -/
  | fp6Isone (ra : Field6)
  /-- `FP6.EQ`, op 0x3A, format SS, R244. -/
  | fp6Eq (ra rb : Field6)
  /-- `FP6.MOV`, op 0x3B, format DS, R245. -/
  | fp6Mov (rd ra : Field6)
  /-- `FP6.FROB`, op 0x3C, format DS, R246. -/
  | fp6Frob (rd ra : Field6)
  /-- `FP6.FROBP2`, op 0x3D, format DS, R247. -/
  | fp6Frobp2 (rd ra : Field6)
  /-- `FP6.FROBP4`, op 0x3E, format DS, R248. -/
  | fp6Frobp4 (rd ra : Field6)
  /-- `FP6.MULTAU`, op 0x3F, format DS, R249. -/
  | fp6Multau (rd ra : Field6)
  /-- `FP12.ADD`, op 0x40, format DSS, R264. -/
  | fp12Add (rd ra rb : Field6)
  /-- `FP12.SUB`, op 0x41, format DSS, R265. -/
  | fp12Sub (rd ra rb : Field6)
  /-- `FP12.NEG`, op 0x42, format DS, R266. -/
  | fp12Neg (rd ra : Field6)
  /-- `FP12.MUL`, op 0x43, format DSS, R267. -/
  | fp12Mul (rd ra rb : Field6)
  /-- `FP12.SQR`, op 0x44, format DS, R268. -/
  | fp12Sqr (rd ra : Field6)
  /-- `FP12.INV`, op 0x45, format DS, R269. -/
  | fp12Inv (rd ra : Field6)
  /-- `FP12.ZERO`, op 0x46, format D, R270. -/
  | fp12Zero (rd : Field6)
  /-- `FP12.ONE`, op 0x47, format D, R271. -/
  | fp12One (rd : Field6)
  /-- `FP12.ISZERO`, op 0x48, format S, R272. -/
  | fp12Iszero (ra : Field6)
  /-- `FP12.ISONE`, op 0x49, format S, R273. -/
  | fp12Isone (ra : Field6)
  /-- `FP12.EQ`, op 0x4A, format SS, R274. -/
  | fp12Eq (ra rb : Field6)
  /-- `FP12.MOV`, op 0x4B, format DS, R275. -/
  | fp12Mov (rd ra : Field6)
  /-- `FP12.ENC`, op 0x4C, format S, R276. -/
  | fp12Enc (ra : Field6)
  /-- `FP12.DEC`, op 0x4D, format D, R277. -/
  | fp12Dec (rd : Field6)
  /-- `FP12.FROB`, op 0x50, format DS, R278. -/
  | fp12Frob (rd ra : Field6)
  /-- `FP12.FROBP2`, op 0x51, format DS, R279. -/
  | fp12Frobp2 (rd ra : Field6)
  /-- `FP12.FROBP4`, op 0x52, format DS, R280. -/
  | fp12Frobp4 (rd ra : Field6)
  /-- `FP12.CONJ`, op 0x53, format DS, R281. -/
  | fp12Conj (rd ra : Field6)
  /-- `FP12.EXP`, op 0x54, format DSS, R282. -/
  | fp12Exp (rd ra kb : Field6)
  /-- `GT.BASEEXP`, op 0x55, format DS, R283. -/
  | gtBaseexp (rd kb : Field6)
  /-- `G1.ADD`, op 0x60, format DSS, R312. -/
  | g1Add (rd ra rb : Field6)
  /-- `G1.DBL`, op 0x61, format DS, R313. -/
  | g1Dbl (rd ra : Field6)
  /-- `G1.NEG`, op 0x62, format DS, R314. -/
  | g1Neg (rd ra : Field6)
  /-- `G1.MUL`, op 0x63, format DSS, R373. -/
  | g1Mul (rd ra kb : Field6)
  /-- `G1.BASEMUL`, op 0x64, format DS, R374. -/
  | g1Basemul (rd kb : Field6)
  /-- `G1.AFF`, op 0x65, format DS, R315. -/
  | g1Aff (rd ra : Field6)
  /-- `G1.ONCURVE`, op 0x66, format S, R317. -/
  | g1Oncurve (ra : Field6)
  /-- `G1.INF`, op 0x67, format D, R318. -/
  | g1Inf (rd : Field6)
  /-- `G1.MOV`, op 0x68, format DS, R319. -/
  | g1Mov (rd ra : Field6)
  /-- `G1.MARSHAL`, op 0x69, format S, R432. -/
  | g1Marshal (ra : Field6)
  /-- `G1.UNMARSHAL`, op 0x6A, format D, R433. -/
  | g1Unmarshal (rd : Field6)
  /-- `G1.RANDOM`, op 0x6B, format DD, R438. -/
  | g1Random (rd kd : Field6)
  /-- `G2.ADD`, op 0x70, format DSS, R342. -/
  | g2Add (rd ra rb : Field6)
  /-- `G2.DBL`, op 0x71, format DS, R343. -/
  | g2Dbl (rd ra : Field6)
  /-- `G2.NEG`, op 0x72, format DS, R344. -/
  | g2Neg (rd ra : Field6)
  /-- `G2.MUL`, op 0x73, format DSS, R376. -/
  | g2Mul (rd ra kb : Field6)
  /-- `G2.BASEMUL`, op 0x74, format DS, R377. -/
  | g2Basemul (rd kb : Field6)
  /-- `G2.AFF`, op 0x75, format DS, R345. -/
  | g2Aff (rd ra : Field6)
  /-- `G2.ONCURVE`, op 0x76, format S, R347. -/
  | g2Oncurve (ra : Field6)
  /-- `G2.INF`, op 0x77, format D, R348. -/
  | g2Inf (rd : Field6)
  /-- `G2.MOV`, op 0x78, format DS, R349. -/
  | g2Mov (rd ra : Field6)
  /-- `G2.MARSHAL`, op 0x79, format S, R434. -/
  | g2Marshal (ra : Field6)
  /-- `G2.UNMARSHAL`, op 0x7A, format D, R435. -/
  | g2Unmarshal (rd : Field6)
  /-- `G2.RANDOM`, op 0x7B, format DD, R439. -/
  | g2Random (rd kd : Field6)
  /-- `MILLER`, op 0x80, format DSS, R405. -/
  | miller (rd ra rb : Field6)
  /-- `FINALEXP`, op 0x81, format DS, R406. -/
  | finalexp (rd ra : Field6)
  /-- `PAIR`, op 0x82, format DSS, R407. -/
  | pair (rd ra rb : Field6)
  /-- `PAIRCHK`, op 0x83, format SS, R408. -/
  | pairchk (ra rb : Field6)
  /-- `FP2.PACK`, op 0x90, format DSS, R301. -/
  | fp2Pack (rd ra rb : Field6)
  /-- `FP2.GET`, op 0x91, format DSI, R302. -/
  | fp2Get (rd ra sel : Field6)
  /-- `FP6.PACK`, op 0x92, format DSSS, R303. -/
  | fp6Pack (rd ra rb rc : Field6)
  /-- `FP6.GET`, op 0x93, format DSI, R304. -/
  | fp6Get (rd ra sel : Field6)
  /-- `FP12.PACK`, op 0x94, format DSS, R305. -/
  | fp12Pack (rd ra rb : Field6)
  /-- `FP12.GET`, op 0x95, format DSI, R306. -/
  | fp12Get (rd ra sel : Field6)
  /-- `K.LD`, op 0xA0, format D, R378. -/
  | kLd (kd : Field6)
  /-- `K.ST`, op 0xA1, format S, R379. -/
  | kSt (ka : Field6)
  /-- `K.LDI`, op 0xA2, format DI, R380. -/
  | kLdi (kd : Field6) (imm : BitVec 18)
  /-- `K.MOV`, op 0xA3, format DS, R381. -/
  | kMov (kd ka : Field6)
deriving DecidableEq, Repr

end Sys2Proof
end

