-- ==== Sys2Proof/WellFormed.lean ====
section
/-!
DEFINITION. Legality of a command's fields (R123, R125, R137): register indices and selectors.
-/

namespace Sys2Proof

/-- A field that indexes a file of `size` registers (R123). -/
abbrev inFile (size : Nat) (f : Field6) : Bool := f.toNat < size

/-- Every register index is below its file's size (R123, R137 (c)). -/
def Instr.indicesLegal : Instr → Bool
  | .fpAdd rd ra rb => inFile Config.nFp rd && inFile Config.nFp ra && inFile Config.nFp rb
  | .fpSub rd ra rb => inFile Config.nFp rd && inFile Config.nFp ra && inFile Config.nFp rb
  | .fpNeg rd ra => inFile Config.nFp rd && inFile Config.nFp ra
  | .fpMul rd ra rb => inFile Config.nFp rd && inFile Config.nFp ra && inFile Config.nFp rb
  | .fpSqr rd ra => inFile Config.nFp rd && inFile Config.nFp ra
  | .fpInv rd ra => inFile Config.nFp rd && inFile Config.nFp ra
  | .fpZero rd => inFile Config.nFp rd
  | .fpOne rd => inFile Config.nFp rd
  | .fpIszero ra => inFile Config.nFp ra
  | .fpIsone ra => inFile Config.nFp ra
  | .fpEq ra rb => inFile Config.nFp ra && inFile Config.nFp rb
  | .fpMov rd ra => inFile Config.nFp rd && inFile Config.nFp ra
  | .fpEnc ra => inFile Config.nFp ra
  | .fpDec rd => inFile Config.nFp rd
  | .fp2Add rd ra rb => inFile Config.nFp2 rd && inFile Config.nFp2 ra && inFile Config.nFp2 rb
  | .fp2Sub rd ra rb => inFile Config.nFp2 rd && inFile Config.nFp2 ra && inFile Config.nFp2 rb
  | .fp2Neg rd ra => inFile Config.nFp2 rd && inFile Config.nFp2 ra
  | .fp2Mul rd ra rb => inFile Config.nFp2 rd && inFile Config.nFp2 ra && inFile Config.nFp2 rb
  | .fp2Sqr rd ra => inFile Config.nFp2 rd && inFile Config.nFp2 ra
  | .fp2Inv rd ra => inFile Config.nFp2 rd && inFile Config.nFp2 ra
  | .fp2Zero rd => inFile Config.nFp2 rd
  | .fp2One rd => inFile Config.nFp2 rd
  | .fp2Iszero ra => inFile Config.nFp2 ra
  | .fp2Isone ra => inFile Config.nFp2 ra
  | .fp2Eq ra rb => inFile Config.nFp2 ra && inFile Config.nFp2 rb
  | .fp2Mov rd ra => inFile Config.nFp2 rd && inFile Config.nFp2 ra
  | .fp2Enc ra => inFile Config.nFp2 ra
  | .fp2Dec rd => inFile Config.nFp2 rd
  | .fp2Mulxi rd ra => inFile Config.nFp2 rd && inFile Config.nFp2 ra
  | .fp6Add rd ra rb => inFile Config.nFp6 rd && inFile Config.nFp6 ra && inFile Config.nFp6 rb
  | .fp6Sub rd ra rb => inFile Config.nFp6 rd && inFile Config.nFp6 ra && inFile Config.nFp6 rb
  | .fp6Neg rd ra => inFile Config.nFp6 rd && inFile Config.nFp6 ra
  | .fp6Mul rd ra rb => inFile Config.nFp6 rd && inFile Config.nFp6 ra && inFile Config.nFp6 rb
  | .fp6Sqr rd ra => inFile Config.nFp6 rd && inFile Config.nFp6 ra
  | .fp6Inv rd ra => inFile Config.nFp6 rd && inFile Config.nFp6 ra
  | .fp6Zero rd => inFile Config.nFp6 rd
  | .fp6One rd => inFile Config.nFp6 rd
  | .fp6Iszero ra => inFile Config.nFp6 ra
  | .fp6Isone ra => inFile Config.nFp6 ra
  | .fp6Eq ra rb => inFile Config.nFp6 ra && inFile Config.nFp6 rb
  | .fp6Mov rd ra => inFile Config.nFp6 rd && inFile Config.nFp6 ra
  | .fp6Frob rd ra => inFile Config.nFp6 rd && inFile Config.nFp6 ra
  | .fp6Frobp2 rd ra => inFile Config.nFp6 rd && inFile Config.nFp6 ra
  | .fp6Frobp4 rd ra => inFile Config.nFp6 rd && inFile Config.nFp6 ra
  | .fp6Multau rd ra => inFile Config.nFp6 rd && inFile Config.nFp6 ra
  | .fp12Add rd ra rb => inFile Config.nFp12 rd && inFile Config.nFp12 ra && inFile Config.nFp12 rb
  | .fp12Sub rd ra rb => inFile Config.nFp12 rd && inFile Config.nFp12 ra && inFile Config.nFp12 rb
  | .fp12Neg rd ra => inFile Config.nFp12 rd && inFile Config.nFp12 ra
  | .fp12Mul rd ra rb => inFile Config.nFp12 rd && inFile Config.nFp12 ra && inFile Config.nFp12 rb
  | .fp12Sqr rd ra => inFile Config.nFp12 rd && inFile Config.nFp12 ra
  | .fp12Inv rd ra => inFile Config.nFp12 rd && inFile Config.nFp12 ra
  | .fp12Zero rd => inFile Config.nFp12 rd
  | .fp12One rd => inFile Config.nFp12 rd
  | .fp12Iszero ra => inFile Config.nFp12 ra
  | .fp12Isone ra => inFile Config.nFp12 ra
  | .fp12Eq ra rb => inFile Config.nFp12 ra && inFile Config.nFp12 rb
  | .fp12Mov rd ra => inFile Config.nFp12 rd && inFile Config.nFp12 ra
  | .fp12Enc ra => inFile Config.nFp12 ra
  | .fp12Dec rd => inFile Config.nFp12 rd
  | .fp12Frob rd ra => inFile Config.nFp12 rd && inFile Config.nFp12 ra
  | .fp12Frobp2 rd ra => inFile Config.nFp12 rd && inFile Config.nFp12 ra
  | .fp12Frobp4 rd ra => inFile Config.nFp12 rd && inFile Config.nFp12 ra
  | .fp12Conj rd ra => inFile Config.nFp12 rd && inFile Config.nFp12 ra
  | .fp12Exp rd ra kb => inFile Config.nFp12 rd && inFile Config.nFp12 ra && inFile Config.nK kb
  | .gtBaseexp rd kb => inFile Config.nFp12 rd && inFile Config.nK kb
  | .g1Add rd ra rb => inFile Config.nG1 rd && inFile Config.nG1 ra && inFile Config.nG1 rb
  | .g1Dbl rd ra => inFile Config.nG1 rd && inFile Config.nG1 ra
  | .g1Neg rd ra => inFile Config.nG1 rd && inFile Config.nG1 ra
  | .g1Mul rd ra kb => inFile Config.nG1 rd && inFile Config.nG1 ra && inFile Config.nK kb
  | .g1Basemul rd kb => inFile Config.nG1 rd && inFile Config.nK kb
  | .g1Aff rd ra => inFile Config.nG1 rd && inFile Config.nG1 ra
  | .g1Oncurve ra => inFile Config.nG1 ra
  | .g1Inf rd => inFile Config.nG1 rd
  | .g1Mov rd ra => inFile Config.nG1 rd && inFile Config.nG1 ra
  | .g1Marshal ra => inFile Config.nG1 ra
  | .g1Unmarshal rd => inFile Config.nG1 rd
  | .g1Random rd kd => inFile Config.nG1 rd && inFile Config.nK kd
  | .g2Add rd ra rb => inFile Config.nG2 rd && inFile Config.nG2 ra && inFile Config.nG2 rb
  | .g2Dbl rd ra => inFile Config.nG2 rd && inFile Config.nG2 ra
  | .g2Neg rd ra => inFile Config.nG2 rd && inFile Config.nG2 ra
  | .g2Mul rd ra kb => inFile Config.nG2 rd && inFile Config.nG2 ra && inFile Config.nK kb
  | .g2Basemul rd kb => inFile Config.nG2 rd && inFile Config.nK kb
  | .g2Aff rd ra => inFile Config.nG2 rd && inFile Config.nG2 ra
  | .g2Oncurve ra => inFile Config.nG2 ra
  | .g2Inf rd => inFile Config.nG2 rd
  | .g2Mov rd ra => inFile Config.nG2 rd && inFile Config.nG2 ra
  | .g2Marshal ra => inFile Config.nG2 ra
  | .g2Unmarshal rd => inFile Config.nG2 rd
  | .g2Random rd kd => inFile Config.nG2 rd && inFile Config.nK kd
  | .miller rd ra rb => inFile Config.nFp12 rd && inFile Config.nG1 ra && inFile Config.nG2 rb
  | .finalexp rd ra => inFile Config.nFp12 rd && inFile Config.nFp12 ra
  | .pair rd ra rb => inFile Config.nFp12 rd && inFile Config.nG1 ra && inFile Config.nG2 rb
  | .pairchk ra rb => inFile Config.nG1 ra && inFile Config.nG2 rb
  | .fp2Pack rd ra rb => inFile Config.nFp2 rd && inFile Config.nFp ra && inFile Config.nFp rb
  | .fp2Get rd ra _ => inFile Config.nFp rd && inFile Config.nFp2 ra
  | .fp6Pack rd ra rb rc => inFile Config.nFp6 rd && inFile Config.nFp2 ra && inFile Config.nFp2 rb && inFile Config.nFp2 rc
  | .fp6Get rd ra _ => inFile Config.nFp2 rd && inFile Config.nFp6 ra
  | .fp12Pack rd ra rb => inFile Config.nFp12 rd && inFile Config.nFp6 ra && inFile Config.nFp6 rb
  | .fp12Get rd ra _ => inFile Config.nFp6 rd && inFile Config.nFp12 ra
  | .kLd kd => inFile Config.nK kd
  | .kSt ka => inFile Config.nK ka
  | .kLdi kd _ => inFile Config.nK kd
  | .kMov kd ka => inFile Config.nK kd && inFile Config.nK ka

/-- The selector of a GET command names a component (R125 (a), R137 (d)). -/
def Instr.selLegal : Instr → Bool
  | .fpAdd _ _ _ => true
  | .fpSub _ _ _ => true
  | .fpNeg _ _ => true
  | .fpMul _ _ _ => true
  | .fpSqr _ _ => true
  | .fpInv _ _ => true
  | .fpZero _ => true
  | .fpOne _ => true
  | .fpIszero _ => true
  | .fpIsone _ => true
  | .fpEq _ _ => true
  | .fpMov _ _ => true
  | .fpEnc _ => true
  | .fpDec _ => true
  | .fp2Add _ _ _ => true
  | .fp2Sub _ _ _ => true
  | .fp2Neg _ _ => true
  | .fp2Mul _ _ _ => true
  | .fp2Sqr _ _ => true
  | .fp2Inv _ _ => true
  | .fp2Zero _ => true
  | .fp2One _ => true
  | .fp2Iszero _ => true
  | .fp2Isone _ => true
  | .fp2Eq _ _ => true
  | .fp2Mov _ _ => true
  | .fp2Enc _ => true
  | .fp2Dec _ => true
  | .fp2Mulxi _ _ => true
  | .fp6Add _ _ _ => true
  | .fp6Sub _ _ _ => true
  | .fp6Neg _ _ => true
  | .fp6Mul _ _ _ => true
  | .fp6Sqr _ _ => true
  | .fp6Inv _ _ => true
  | .fp6Zero _ => true
  | .fp6One _ => true
  | .fp6Iszero _ => true
  | .fp6Isone _ => true
  | .fp6Eq _ _ => true
  | .fp6Mov _ _ => true
  | .fp6Frob _ _ => true
  | .fp6Frobp2 _ _ => true
  | .fp6Frobp4 _ _ => true
  | .fp6Multau _ _ => true
  | .fp12Add _ _ _ => true
  | .fp12Sub _ _ _ => true
  | .fp12Neg _ _ => true
  | .fp12Mul _ _ _ => true
  | .fp12Sqr _ _ => true
  | .fp12Inv _ _ => true
  | .fp12Zero _ => true
  | .fp12One _ => true
  | .fp12Iszero _ => true
  | .fp12Isone _ => true
  | .fp12Eq _ _ => true
  | .fp12Mov _ _ => true
  | .fp12Enc _ => true
  | .fp12Dec _ => true
  | .fp12Frob _ _ => true
  | .fp12Frobp2 _ _ => true
  | .fp12Frobp4 _ _ => true
  | .fp12Conj _ _ => true
  | .fp12Exp _ _ _ => true
  | .gtBaseexp _ _ => true
  | .g1Add _ _ _ => true
  | .g1Dbl _ _ => true
  | .g1Neg _ _ => true
  | .g1Mul _ _ _ => true
  | .g1Basemul _ _ => true
  | .g1Aff _ _ => true
  | .g1Oncurve _ => true
  | .g1Inf _ => true
  | .g1Mov _ _ => true
  | .g1Marshal _ => true
  | .g1Unmarshal _ => true
  | .g1Random _ _ => true
  | .g2Add _ _ _ => true
  | .g2Dbl _ _ => true
  | .g2Neg _ _ => true
  | .g2Mul _ _ _ => true
  | .g2Basemul _ _ => true
  | .g2Aff _ _ => true
  | .g2Oncurve _ => true
  | .g2Inf _ => true
  | .g2Mov _ _ => true
  | .g2Marshal _ => true
  | .g2Unmarshal _ => true
  | .g2Random _ _ => true
  | .miller _ _ _ => true
  | .finalexp _ _ => true
  | .pair _ _ _ => true
  | .pairchk _ _ => true
  | .fp2Pack _ _ _ => true
  | .fp2Get _ _ sel => sel.toNat < 2
  | .fp6Pack _ _ _ _ => true
  | .fp6Get _ _ sel => sel.toNat < 3
  | .fp12Pack _ _ _ => true
  | .fp12Get _ _ sel => sel.toNat < 2
  | .kLd _ => true
  | .kSt _ => true
  | .kLdi _ _ => true
  | .kMov _ _ => true

/-- A well-formed command: both checks pass. -/
def Instr.wellFormed (i : Instr) : Bool :=
  i.indicesLegal && i.selLegal

end Sys2Proof
end

