-- ==== Sys2Proof/Decode.lean ====
section
/-!
DEFINITION. The command word (30_encoding R120 to R137, R143): the five fields, the decoder with its
refusals by name, and the encoder.
-/

namespace Sys2Proof

/-- Why a word is illegal (R137), in the order of R470 step 2. -/
inductive DecodeError where
  /-- R137 (a): `op` is not in the opcode map. -/
  | reservedOp
  /-- R137 (b): a bit of an unused field is 1. -/
  | unusedField
  /-- R137 (c): a register index is not below its file's size. -/
  | indexRange
  /-- R137 (d): `sel` names no component. -/
  | selRange
deriving DecidableEq, Repr

/-- `op` = w[31:24] (R121). -/
def opField (w : Word32) : BitVec 8 := w.extractLsb' 24 8
/-- A = w[23:18] (R121). -/
def fieldA (w : Word32) : Field6 := w.extractLsb' 18 6
/-- B = w[17:12] (R121). -/
def fieldB (w : Word32) : Field6 := w.extractLsb' 12 6
/-- C = w[11:6] (R121). -/
def fieldC (w : Word32) : Field6 := w.extractLsb' 6 6
/-- D = w[5:0] (R121). -/
def fieldD (w : Word32) : Field6 := w.extractLsb' 0 6
/-- imm18 = w[17:0] (R125 (b)). -/
def fieldImm (w : Word32) : BitVec 18 := w.extractLsb' 0 18

/-- The word with the given fields (R143). -/
def packWord (op : BitVec 8) (a b c d : Field6) : Word32 :=
  op ++ a ++ b ++ c ++ d

/-- The command, if the unused fields are zero (R124). -/
def unusedZero (ok : Bool) (i : Instr) : Except DecodeError Instr :=
  if ok then .ok i else .error .unusedField

/-- Format D (R122): the field A alone. -/
def formD (w : Word32) (f : Field6 → Instr) : Except DecodeError Instr :=
  unusedZero (fieldB w == 0 && fieldC w == 0 && fieldD w == 0) (f (fieldA w))

/-- Format S (R122): the field B alone. -/
def formS (w : Word32) (f : Field6 → Instr) : Except DecodeError Instr :=
  unusedZero (fieldA w == 0 && fieldC w == 0 && fieldD w == 0) (f (fieldB w))

/-- Formats DS and DD (R122): the fields A and B. -/
def formDS (w : Word32) (f : Field6 → Field6 → Instr) : Except DecodeError Instr :=
  unusedZero (fieldC w == 0 && fieldD w == 0) (f (fieldA w) (fieldB w))

/-- Format SS (R122): the fields B and C. -/
def formSS (w : Word32) (f : Field6 → Field6 → Instr) : Except DecodeError Instr :=
  unusedZero (fieldA w == 0 && fieldD w == 0) (f (fieldB w) (fieldC w))

/-- Formats DSS and DSI (R122): the fields A, B and C. -/
def formDSS (w : Word32) (f : Field6 → Field6 → Field6 → Instr) : Except DecodeError Instr :=
  unusedZero (fieldD w == 0) (f (fieldA w) (fieldB w) (fieldC w))

/-- Format DSSS (R122): all four fields. -/
def formDSSS (w : Word32) (f : Field6 → Field6 → Field6 → Field6 → Instr) :
    Except DecodeError Instr :=
  .ok (f (fieldA w) (fieldB w) (fieldC w) (fieldD w))

/-- Format DI (R122): the field A and the 18-bit immediate. -/
def formDI (w : Word32) (f : Field6 → BitVec 18 → Instr) : Except DecodeError Instr :=
  .ok (f (fieldA w) (fieldImm w))

/-- The opcode map (R128): the row that `op` selects, read in its format. -/
def decodeRow (w : Word32) : Except DecodeError Instr :=
  match (opField w).toNat with
  | 0x10 => formDSS w .fpAdd
  | 0x11 => formDSS w .fpSub
  | 0x12 => formDS w .fpNeg
  | 0x13 => formDSS w .fpMul
  | 0x14 => formDS w .fpSqr
  | 0x15 => formDS w .fpInv
  | 0x16 => formD w .fpZero
  | 0x17 => formD w .fpOne
  | 0x18 => formS w .fpIszero
  | 0x19 => formS w .fpIsone
  | 0x1A => formSS w .fpEq
  | 0x1B => formDS w .fpMov
  | 0x1C => formS w .fpEnc
  | 0x1D => formD w .fpDec
  | 0x20 => formDSS w .fp2Add
  | 0x21 => formDSS w .fp2Sub
  | 0x22 => formDS w .fp2Neg
  | 0x23 => formDSS w .fp2Mul
  | 0x24 => formDS w .fp2Sqr
  | 0x25 => formDS w .fp2Inv
  | 0x26 => formD w .fp2Zero
  | 0x27 => formD w .fp2One
  | 0x28 => formS w .fp2Iszero
  | 0x29 => formS w .fp2Isone
  | 0x2A => formSS w .fp2Eq
  | 0x2B => formDS w .fp2Mov
  | 0x2C => formS w .fp2Enc
  | 0x2D => formD w .fp2Dec
  | 0x2E => formDS w .fp2Mulxi
  | 0x30 => formDSS w .fp6Add
  | 0x31 => formDSS w .fp6Sub
  | 0x32 => formDS w .fp6Neg
  | 0x33 => formDSS w .fp6Mul
  | 0x34 => formDS w .fp6Sqr
  | 0x35 => formDS w .fp6Inv
  | 0x36 => formD w .fp6Zero
  | 0x37 => formD w .fp6One
  | 0x38 => formS w .fp6Iszero
  | 0x39 => formS w .fp6Isone
  | 0x3A => formSS w .fp6Eq
  | 0x3B => formDS w .fp6Mov
  | 0x3C => formDS w .fp6Frob
  | 0x3D => formDS w .fp6Frobp2
  | 0x3E => formDS w .fp6Frobp4
  | 0x3F => formDS w .fp6Multau
  | 0x40 => formDSS w .fp12Add
  | 0x41 => formDSS w .fp12Sub
  | 0x42 => formDS w .fp12Neg
  | 0x43 => formDSS w .fp12Mul
  | 0x44 => formDS w .fp12Sqr
  | 0x45 => formDS w .fp12Inv
  | 0x46 => formD w .fp12Zero
  | 0x47 => formD w .fp12One
  | 0x48 => formS w .fp12Iszero
  | 0x49 => formS w .fp12Isone
  | 0x4A => formSS w .fp12Eq
  | 0x4B => formDS w .fp12Mov
  | 0x4C => formS w .fp12Enc
  | 0x4D => formD w .fp12Dec
  | 0x50 => formDS w .fp12Frob
  | 0x51 => formDS w .fp12Frobp2
  | 0x52 => formDS w .fp12Frobp4
  | 0x53 => formDS w .fp12Conj
  | 0x54 => formDSS w .fp12Exp
  | 0x55 => formDS w .gtBaseexp
  | 0x60 => formDSS w .g1Add
  | 0x61 => formDS w .g1Dbl
  | 0x62 => formDS w .g1Neg
  | 0x63 => formDSS w .g1Mul
  | 0x64 => formDS w .g1Basemul
  | 0x65 => formDS w .g1Aff
  | 0x66 => formS w .g1Oncurve
  | 0x67 => formD w .g1Inf
  | 0x68 => formDS w .g1Mov
  | 0x69 => formS w .g1Marshal
  | 0x6A => formD w .g1Unmarshal
  | 0x6B => formDS w .g1Random
  | 0x70 => formDSS w .g2Add
  | 0x71 => formDS w .g2Dbl
  | 0x72 => formDS w .g2Neg
  | 0x73 => formDSS w .g2Mul
  | 0x74 => formDS w .g2Basemul
  | 0x75 => formDS w .g2Aff
  | 0x76 => formS w .g2Oncurve
  | 0x77 => formD w .g2Inf
  | 0x78 => formDS w .g2Mov
  | 0x79 => formS w .g2Marshal
  | 0x7A => formD w .g2Unmarshal
  | 0x7B => formDS w .g2Random
  | 0x80 => formDSS w .miller
  | 0x81 => formDS w .finalexp
  | 0x82 => formDSS w .pair
  | 0x83 => formSS w .pairchk
  | 0x90 => formDSS w .fp2Pack
  | 0x91 => formDSS w .fp2Get
  | 0x92 => formDSSS w .fp6Pack
  | 0x93 => formDSS w .fp6Get
  | 0x94 => formDSS w .fp12Pack
  | 0x95 => formDSS w .fp12Get
  | 0xA0 => formD w .kLd
  | 0xA1 => formS w .kSt
  | 0xA2 => formDI w .kLdi
  | 0xA3 => formDS w .kMov
  | _ => .error .reservedOp

/-- The legality of the fields of a row (R137 (c), (d)). -/
def checkLegal (i : Instr) : Except DecodeError Instr :=
  if i.indicesLegal then
    if i.selLegal then .ok i else .error .selRange
  else .error .indexRange

/-- The decoder: total on every word; an illegal word is refused by name (R137, R470 step 2). -/
def decode (w : Word32) : Except DecodeError Instr :=
  match decodeRow w with
  | .error e => .error e
  | .ok i => checkLegal i

/-- The opcode of a command (R128). -/
def Instr.opcode : Instr → BitVec 8
  | .fpAdd _ _ _ => 0x10
  | .fpSub _ _ _ => 0x11
  | .fpNeg _ _ => 0x12
  | .fpMul _ _ _ => 0x13
  | .fpSqr _ _ => 0x14
  | .fpInv _ _ => 0x15
  | .fpZero _ => 0x16
  | .fpOne _ => 0x17
  | .fpIszero _ => 0x18
  | .fpIsone _ => 0x19
  | .fpEq _ _ => 0x1A
  | .fpMov _ _ => 0x1B
  | .fpEnc _ => 0x1C
  | .fpDec _ => 0x1D
  | .fp2Add _ _ _ => 0x20
  | .fp2Sub _ _ _ => 0x21
  | .fp2Neg _ _ => 0x22
  | .fp2Mul _ _ _ => 0x23
  | .fp2Sqr _ _ => 0x24
  | .fp2Inv _ _ => 0x25
  | .fp2Zero _ => 0x26
  | .fp2One _ => 0x27
  | .fp2Iszero _ => 0x28
  | .fp2Isone _ => 0x29
  | .fp2Eq _ _ => 0x2A
  | .fp2Mov _ _ => 0x2B
  | .fp2Enc _ => 0x2C
  | .fp2Dec _ => 0x2D
  | .fp2Mulxi _ _ => 0x2E
  | .fp6Add _ _ _ => 0x30
  | .fp6Sub _ _ _ => 0x31
  | .fp6Neg _ _ => 0x32
  | .fp6Mul _ _ _ => 0x33
  | .fp6Sqr _ _ => 0x34
  | .fp6Inv _ _ => 0x35
  | .fp6Zero _ => 0x36
  | .fp6One _ => 0x37
  | .fp6Iszero _ => 0x38
  | .fp6Isone _ => 0x39
  | .fp6Eq _ _ => 0x3A
  | .fp6Mov _ _ => 0x3B
  | .fp6Frob _ _ => 0x3C
  | .fp6Frobp2 _ _ => 0x3D
  | .fp6Frobp4 _ _ => 0x3E
  | .fp6Multau _ _ => 0x3F
  | .fp12Add _ _ _ => 0x40
  | .fp12Sub _ _ _ => 0x41
  | .fp12Neg _ _ => 0x42
  | .fp12Mul _ _ _ => 0x43
  | .fp12Sqr _ _ => 0x44
  | .fp12Inv _ _ => 0x45
  | .fp12Zero _ => 0x46
  | .fp12One _ => 0x47
  | .fp12Iszero _ => 0x48
  | .fp12Isone _ => 0x49
  | .fp12Eq _ _ => 0x4A
  | .fp12Mov _ _ => 0x4B
  | .fp12Enc _ => 0x4C
  | .fp12Dec _ => 0x4D
  | .fp12Frob _ _ => 0x50
  | .fp12Frobp2 _ _ => 0x51
  | .fp12Frobp4 _ _ => 0x52
  | .fp12Conj _ _ => 0x53
  | .fp12Exp _ _ _ => 0x54
  | .gtBaseexp _ _ => 0x55
  | .g1Add _ _ _ => 0x60
  | .g1Dbl _ _ => 0x61
  | .g1Neg _ _ => 0x62
  | .g1Mul _ _ _ => 0x63
  | .g1Basemul _ _ => 0x64
  | .g1Aff _ _ => 0x65
  | .g1Oncurve _ => 0x66
  | .g1Inf _ => 0x67
  | .g1Mov _ _ => 0x68
  | .g1Marshal _ => 0x69
  | .g1Unmarshal _ => 0x6A
  | .g1Random _ _ => 0x6B
  | .g2Add _ _ _ => 0x70
  | .g2Dbl _ _ => 0x71
  | .g2Neg _ _ => 0x72
  | .g2Mul _ _ _ => 0x73
  | .g2Basemul _ _ => 0x74
  | .g2Aff _ _ => 0x75
  | .g2Oncurve _ => 0x76
  | .g2Inf _ => 0x77
  | .g2Mov _ _ => 0x78
  | .g2Marshal _ => 0x79
  | .g2Unmarshal _ => 0x7A
  | .g2Random _ _ => 0x7B
  | .miller _ _ _ => 0x80
  | .finalexp _ _ => 0x81
  | .pair _ _ _ => 0x82
  | .pairchk _ _ => 0x83
  | .fp2Pack _ _ _ => 0x90
  | .fp2Get _ _ _ => 0x91
  | .fp6Pack _ _ _ _ => 0x92
  | .fp6Get _ _ _ => 0x93
  | .fp12Pack _ _ _ => 0x94
  | .fp12Get _ _ _ => 0x95
  | .kLd _ => 0xA0
  | .kSt _ => 0xA1
  | .kLdi _ _ => 0xA2
  | .kMov _ _ => 0xA3

/-- The fields A, B, C, D of a command, unused fields 0 (R122, R128). -/
def Instr.fields : Instr → Field6 × Field6 × Field6 × Field6
  | .fpAdd rd ra rb => (rd, ra, rb, 0)
  | .fpSub rd ra rb => (rd, ra, rb, 0)
  | .fpNeg rd ra => (rd, ra, 0, 0)
  | .fpMul rd ra rb => (rd, ra, rb, 0)
  | .fpSqr rd ra => (rd, ra, 0, 0)
  | .fpInv rd ra => (rd, ra, 0, 0)
  | .fpZero rd => (rd, 0, 0, 0)
  | .fpOne rd => (rd, 0, 0, 0)
  | .fpIszero ra => (0, ra, 0, 0)
  | .fpIsone ra => (0, ra, 0, 0)
  | .fpEq ra rb => (0, ra, rb, 0)
  | .fpMov rd ra => (rd, ra, 0, 0)
  | .fpEnc ra => (0, ra, 0, 0)
  | .fpDec rd => (rd, 0, 0, 0)
  | .fp2Add rd ra rb => (rd, ra, rb, 0)
  | .fp2Sub rd ra rb => (rd, ra, rb, 0)
  | .fp2Neg rd ra => (rd, ra, 0, 0)
  | .fp2Mul rd ra rb => (rd, ra, rb, 0)
  | .fp2Sqr rd ra => (rd, ra, 0, 0)
  | .fp2Inv rd ra => (rd, ra, 0, 0)
  | .fp2Zero rd => (rd, 0, 0, 0)
  | .fp2One rd => (rd, 0, 0, 0)
  | .fp2Iszero ra => (0, ra, 0, 0)
  | .fp2Isone ra => (0, ra, 0, 0)
  | .fp2Eq ra rb => (0, ra, rb, 0)
  | .fp2Mov rd ra => (rd, ra, 0, 0)
  | .fp2Enc ra => (0, ra, 0, 0)
  | .fp2Dec rd => (rd, 0, 0, 0)
  | .fp2Mulxi rd ra => (rd, ra, 0, 0)
  | .fp6Add rd ra rb => (rd, ra, rb, 0)
  | .fp6Sub rd ra rb => (rd, ra, rb, 0)
  | .fp6Neg rd ra => (rd, ra, 0, 0)
  | .fp6Mul rd ra rb => (rd, ra, rb, 0)
  | .fp6Sqr rd ra => (rd, ra, 0, 0)
  | .fp6Inv rd ra => (rd, ra, 0, 0)
  | .fp6Zero rd => (rd, 0, 0, 0)
  | .fp6One rd => (rd, 0, 0, 0)
  | .fp6Iszero ra => (0, ra, 0, 0)
  | .fp6Isone ra => (0, ra, 0, 0)
  | .fp6Eq ra rb => (0, ra, rb, 0)
  | .fp6Mov rd ra => (rd, ra, 0, 0)
  | .fp6Frob rd ra => (rd, ra, 0, 0)
  | .fp6Frobp2 rd ra => (rd, ra, 0, 0)
  | .fp6Frobp4 rd ra => (rd, ra, 0, 0)
  | .fp6Multau rd ra => (rd, ra, 0, 0)
  | .fp12Add rd ra rb => (rd, ra, rb, 0)
  | .fp12Sub rd ra rb => (rd, ra, rb, 0)
  | .fp12Neg rd ra => (rd, ra, 0, 0)
  | .fp12Mul rd ra rb => (rd, ra, rb, 0)
  | .fp12Sqr rd ra => (rd, ra, 0, 0)
  | .fp12Inv rd ra => (rd, ra, 0, 0)
  | .fp12Zero rd => (rd, 0, 0, 0)
  | .fp12One rd => (rd, 0, 0, 0)
  | .fp12Iszero ra => (0, ra, 0, 0)
  | .fp12Isone ra => (0, ra, 0, 0)
  | .fp12Eq ra rb => (0, ra, rb, 0)
  | .fp12Mov rd ra => (rd, ra, 0, 0)
  | .fp12Enc ra => (0, ra, 0, 0)
  | .fp12Dec rd => (rd, 0, 0, 0)
  | .fp12Frob rd ra => (rd, ra, 0, 0)
  | .fp12Frobp2 rd ra => (rd, ra, 0, 0)
  | .fp12Frobp4 rd ra => (rd, ra, 0, 0)
  | .fp12Conj rd ra => (rd, ra, 0, 0)
  | .fp12Exp rd ra kb => (rd, ra, kb, 0)
  | .gtBaseexp rd kb => (rd, kb, 0, 0)
  | .g1Add rd ra rb => (rd, ra, rb, 0)
  | .g1Dbl rd ra => (rd, ra, 0, 0)
  | .g1Neg rd ra => (rd, ra, 0, 0)
  | .g1Mul rd ra kb => (rd, ra, kb, 0)
  | .g1Basemul rd kb => (rd, kb, 0, 0)
  | .g1Aff rd ra => (rd, ra, 0, 0)
  | .g1Oncurve ra => (0, ra, 0, 0)
  | .g1Inf rd => (rd, 0, 0, 0)
  | .g1Mov rd ra => (rd, ra, 0, 0)
  | .g1Marshal ra => (0, ra, 0, 0)
  | .g1Unmarshal rd => (rd, 0, 0, 0)
  | .g1Random rd kd => (rd, kd, 0, 0)
  | .g2Add rd ra rb => (rd, ra, rb, 0)
  | .g2Dbl rd ra => (rd, ra, 0, 0)
  | .g2Neg rd ra => (rd, ra, 0, 0)
  | .g2Mul rd ra kb => (rd, ra, kb, 0)
  | .g2Basemul rd kb => (rd, kb, 0, 0)
  | .g2Aff rd ra => (rd, ra, 0, 0)
  | .g2Oncurve ra => (0, ra, 0, 0)
  | .g2Inf rd => (rd, 0, 0, 0)
  | .g2Mov rd ra => (rd, ra, 0, 0)
  | .g2Marshal ra => (0, ra, 0, 0)
  | .g2Unmarshal rd => (rd, 0, 0, 0)
  | .g2Random rd kd => (rd, kd, 0, 0)
  | .miller rd ra rb => (rd, ra, rb, 0)
  | .finalexp rd ra => (rd, ra, 0, 0)
  | .pair rd ra rb => (rd, ra, rb, 0)
  | .pairchk ra rb => (0, ra, rb, 0)
  | .fp2Pack rd ra rb => (rd, ra, rb, 0)
  | .fp2Get rd ra sel => (rd, ra, sel, 0)
  | .fp6Pack rd ra rb rc => (rd, ra, rb, rc)
  | .fp6Get rd ra sel => (rd, ra, sel, 0)
  | .fp12Pack rd ra rb => (rd, ra, rb, 0)
  | .fp12Get rd ra sel => (rd, ra, sel, 0)
  | .kLd kd => (kd, 0, 0, 0)
  | .kSt ka => (0, ka, 0, 0)
  | .kLdi kd imm => (kd, imm.extractLsb' 12 6, imm.extractLsb' 6 6, imm.extractLsb' 0 6)
  | .kMov kd ka => (kd, ka, 0, 0)

/-- The encoder (R143): the one word of a command. -/
def encode (i : Instr) : Word32 :=
  packWord i.opcode i.fields.1 i.fields.2.1 i.fields.2.2.1 i.fields.2.2.2

/-- What the decoder reads from a command word of `nbits` bits held in `w`; the bits above are 0. A
command is one 32-bit value written whole to `CMD` and has no byte order (R103, R120). -/
def decodeTableWord (nbits w : Nat) : Option Instr :=
  match decode (BitVec.ofNat 32 (w % 2 ^ nbits)) with
  | .ok i => some i
  | .error _ => none

end Sys2Proof
end

