-- ==== Sys2Proof/Machine/State.lean ====
section
/-!
DEFINITION. The state of one engine (10_state R41), with the accesses the host has still to make, and the
state after reset (R68, R500).
-/

namespace Sys2Proof.Machine

/-- Raised by the host's side only, never by a command. -/
inductive Fault where
  /-- Raised by Step when the host reads or writes a byte of DBUF at an index that does not exist
  (R67 lets it use j < BUF_BYTES alone). Safe: the model stops where the spec gives no access. -/
  | hostBufferIndex (j : Nat)
deriving DecidableEq, Repr

/-- A command without a meaning. -/
inductive Refusal where
  /-- Raised by Dispatch for a command that has no meaning yet. No arm raises it: every command of the
  opcode map has its meaning. Safe: the model stops. -/
  | notModelled (mnemonic : String)
deriving DecidableEq, Repr

/-- One access of the host between two commands (R67), or a reset (R500). -/
inductive HostAction where
  /-- Write `v` to control register `number`; number 0 is CMD and runs the command `v` (R46, R47). -/
  | writeReg (number : Nat) (v : Word32)
  /-- Read control register `number` (R46). -/
  | readReg (number : Nat)
  /-- Write a byte of DBUF. -/
  | writeByte (j : Nat) (b : Byte)
  /-- Read a byte of DBUF. -/
  | readByte (j : Nat)
  /-- Assert reset (R500). -/
  | reset
deriving DecidableEq, Repr

/-- The state (R41). The last four fields are the model's own (log 4, 6, 9, 11). -/
structure State where
  /-- File `fp` (R43). -/
  fp : Vector (Reg MontWord) Config.nFp
  /-- File `fp2` (R56). -/
  fp2 : Vector (Reg Fp2) Config.nFp2
  /-- File `fp6` (R57). -/
  fp6 : Vector (Reg Fp6) Config.nFp6
  /-- File `fp12` (R58). -/
  fp12 : Vector (Reg Fp12) Config.nFp12
  /-- File `g1` (R59). -/
  g1 : Vector (Reg (Jac MontWord)) Config.nG1
  /-- File `g2` (R60). -/
  g2 : Vector (Reg (Jac Fp2)) Config.nG2
  /-- File `k` (R62): natural numbers with no upper bound. -/
  k : Vector (Reg Nat) Config.nK
  /-- The flag RES (R45). -/
  res : Bool
  /-- ERR (R49). -/
  err : Word32
  /-- FAULT (R50). -/
  fault : Word32
  /-- FINFO (R51). -/
  finfo : Word32
  /-- BPTR (R52). -/
  bptr : Word32
  /-- BLEN (R53). -/
  blen : Word32
  /-- LENA (R54). -/
  lena : Word32
  /-- LENB (R55). -/
  lenb : Word32
  /-- DBUF (R63, R80): the valid bytes, addresses strictly rising. An address that is not listed is a byte
  whose validity tag is clear. -/
  dbuf : List Host.Cell
  /-- The accesses the host has still to make, the first one first. -/
  host : List HostAction
  /-- What the host's last read returned. -/
  hostData : Word32
  /-- The answers that wait at the entropy source, the first one first. -/
  entropy : List EntropyAnswer
  /-- How many free values have been drawn. -/
  draws : Nat
deriving DecidableEq, Repr

/-- A register after reset: not valid (R68). Its content, which the rules leave unspecified, is the zero of
its type (log 1). -/
def Reg.afterReset {α : Type} (zero : α) : Reg α := ⟨false, zero⟩

/-- The state after reset (R68, R500). -/
def State.reset : State :=
  { fp := Vector.replicate _ (Reg.afterReset Fp.zero)
    fp2 := Vector.replicate _ (Reg.afterReset Fp2.zero)
    fp6 := Vector.replicate _ (Reg.afterReset Fp6.zero)
    fp12 := Vector.replicate _ (Reg.afterReset Fp12.zero)
    g1 := Vector.replicate _ (Reg.afterReset ⟨Fp.zero, Fp.zero, Fp.zero, Fp.zero⟩)
    g2 := Vector.replicate _ (Reg.afterReset ⟨Fp2.zero, Fp2.zero, Fp2.zero, Fp2.zero⟩)
    k := Vector.replicate _ (Reg.afterReset 0)
    res := false
    err := 0
    fault := 0
    finfo := 0
    bptr := 0
    blen := 0
    lena := 0
    lenb := 0
    dbuf := []
    host := []
    hostData := 0
    entropy := []
    draws := 0 }

end Sys2Proof.Machine
end

