-- ==== Sys2Proof/Machine/Flags.lean ====
section
/-!
DEFINITION. The flag RES (R45), the halt condition (R50) and the STATUS view (R48). There is no other flag
and no arithmetic command has a flag side effect (R45).
-/

namespace Sys2Proof.Machine

/-- `RES <- b` (R23, R45). -/
def setRes (s : State) (b : Bool) : State := { s with res := b }

/-- `FAULT.CODE` = FAULT[3:0] (R50). -/
def faultCode (s : State) : BitVec 4 := s.fault.extractLsb' 0 4

/-- The engine is halted (R47, R463). -/
def halted (s : State) : Bool := faultCode s != 0

/-- STATUS: bit 0 is RES, bit 1 is HALT, the others read 0 (R48). -/
def statusWord (s : State) : Word32 :=
  BitVec.ofNat 32 (s.res.toNat + 2 * (halted s).toNat)

end Sys2Proof.Machine
end

