-- ==== Sys2Proof/Machine/Operands.lean ====
section
/-!
DEFINITION. Reading and writing the seven register files (R19, R42), and the free words of a point
result (U4, U5, U6).
-/

namespace Sys2Proof.Machine

/-- The content of register `f` of a file, if the register is valid (R19, R42). -/
def readReg {α : Type} {n : Nat} (v : Vector (Reg α) n) (f : Field6) : Option α :=
  match v[f.toNat]? with
  | some r => if r.valid then some r.content else none
  | none => none

/-- `f[i] <- v`: the content is written and the register is valid (R19, R42). -/
def writeReg {α : Type} {n : Nat} (v : Vector (Reg α) n) (f : Field6) (x : α) :
    Vector (Reg α) n :=
  v.setIfInBounds f.toNat ⟨true, x⟩

/-- The contents of `m` consecutive registers from register `start`, if all are valid (R408). -/
def readRun {α : Type} {n : Nat} (v : Vector (Reg α) n) (start : Nat) : Nat → Option (List α)
  | 0 => some []
  | m + 1 =>
    match v[start]?, readRun v (start + 1) m with
    | some r, some rest => if r.valid then some (r.content :: rest) else none
    | _, _ => none

/-- How a command reaches one register file. -/
structure RegFile (α : Type) where
  read  : State → Field6 → Option α
  write : State → Field6 → α → State

/-- File `fp` (R43). -/
def fpFile : RegFile MontWord :=
  { read := fun s f => readReg s.fp f, write := fun s f x => { s with fp := writeReg s.fp f x } }

/-- File `fp2` (R56). -/
def fp2File : RegFile Fp2 :=
  { read := fun s f => readReg s.fp2 f, write := fun s f x => { s with fp2 := writeReg s.fp2 f x } }

/-- File `fp6` (R57). -/
def fp6File : RegFile Fp6 :=
  { read := fun s f => readReg s.fp6 f, write := fun s f x => { s with fp6 := writeReg s.fp6 f x } }

/-- File `fp12` (R58). -/
def fp12File : RegFile Fp12 :=
  { read := fun s f => readReg s.fp12 f
    write := fun s f x => { s with fp12 := writeReg s.fp12 f x } }

/-- File `g1` (R59). -/
def g1File : RegFile (Jac MontWord) :=
  { read := fun s f => readReg s.g1 f, write := fun s f x => { s with g1 := writeReg s.g1 f x } }

/-- File `g2` (R60). -/
def g2File : RegFile (Jac Fp2) :=
  { read := fun s f => readReg s.g2 f, write := fun s f x => { s with g2 := writeReg s.g2 f x } }

/-- File `k` (R62). -/
def kFile : RegFile Nat :=
  { read := fun s f => readReg s.k f, write := fun s f x => { s with k := writeReg s.k f x } }

/-- Word `j` of the next draw: any canonical word (U4, U5, U6; log 8). -/
def drawnWord (s : State) (j : Nat) : MontWord :=
  Fp.reduce Config.params (Config.freeWord s.draws j).toNat

/-- The values a G1 result leaves open. -/
def g1Draw (s : State) : PointDraw MontWord :=
  { scale := drawnWord s 0, x := drawnWord s 1, y := drawnWord s 2, t := drawnWord s 3 }

/-- The values a G2 result leaves open. -/
def g2Draw (s : State) : PointDraw Fp2 :=
  { scale := ⟨drawnWord s 0, drawnWord s 1⟩, x := ⟨drawnWord s 2, drawnWord s 3⟩
    y := ⟨drawnWord s 4, drawnWord s 5⟩, t := ⟨drawnWord s 6, drawnWord s 7⟩ }

/-- A point group as the point commands see it: its file, its coordinate field, its draw, its validity
predicate. -/
structure PointGroup (F : Type) where
  file    : RegFile (Jac F)
  ops     : FieldOps F
  draw    : State → PointDraw F
  onCurve : Aff F → Bool

/-- G1 (R310, R316). -/
def g1Group : PointGroup MontWord :=
  { file := g1File, ops := fpOps Config.params, draw := g1Draw, onCurve := onCurve1 Config.params }

/-- G2 (R340, R346). -/
def g2Group : PointGroup Fp2 :=
  { file := g2File, ops := fp2Ops Config.params, draw := g2Draw, onCurve := onCurve2 Config.params }

end Sys2Proof.Machine
end

