-- ==== Sys2Proof/Machine/Ops.lean ====
section
/-!
DEFINITION. The shared operations: DBUF and its window (R20, R21, R80 to R82), the three endings of a
command (R22, R460), taking a fault and leaving the halt (R463, R464), delivering an error (R468), the
entropy request (R440), and the frame every command runs in (R24, R470).
-/

namespace Sys2Proof.Machine

/-! ### DBUF -/

/-- The byte at address `a`, if it is valid: an unlisted address has no value (R42; log 19). -/
def memRead : List Host.Cell → Nat → Option Byte
  | [], _ => none
  | (k, b) :: m, a => if k = a then some b else memRead m a

/-- The memory with byte `b` at address `a`, addresses strictly rising. -/
def memWrite : List Host.Cell → Nat → Byte → List Host.Cell
  | [], a, b => [(a, b)]
  | (k, v) :: m, a, b =>
    if a < k then (a, b) :: (k, v) :: m
    else if a = k then (a, b) :: m
    else (k, v) :: memWrite m a b

/-- The `n` bytes from address `a`, if all are valid (R20). -/
def memReadRange (m : List Host.Cell) (a : Nat) : Nat → Option (List Byte)
  | 0 => some []
  | n + 1 =>
    match memRead m a, memReadRange m (a + 1) n with
    | some b, some rest => some (b :: rest)
    | _, _ => none

/-- The memory with the bytes `bs` from address `a` on (R20). -/
def memWriteRange (m : List Host.Cell) (a : Nat) : List Byte → List Host.Cell
  | [] => m
  | b :: bs => memWriteRange (memWrite m a b) (a + 1) bs

/-- Every address of a memory is above `a`, and they rise strictly. -/
def memRising (a : Nat) : List Host.Cell → Bool
  | [] => true
  | (k, _) :: m => decide (a ≤ k) && memRising (k + 1) m

/-- The canonical form: addresses strictly rising. An unlisted address has no value, so no entry can equal
what an unlisted address reads as. -/
def Memory.wf (m : List Host.Cell) : Bool := memRising 0 m

/-! ### The endings of a command -/

/-- The halting faults (R461). -/
inductive FaultKind where
  | illegalCommand
  | uninitOperand
  | invertZero
  | indexRange
  | bufferBounds
  | scalarRange
deriving DecidableEq, Repr

/-- The recoverable errors (R465 to R467). -/
inductive ErrorKind where
  | insufficientData
  | malformedPoint
  | entropyFailure
deriving DecidableEq, Repr

/-- The FAULT.CODE of a fault (R50, R461). -/
def faultNumber : FaultKind → Word32
  | .illegalCommand => 1
  | .uninitOperand => 2
  | .invertZero => 3
  | .indexRange => 4
  | .bufferBounds => 5
  | .scalarRange => 6

/-- The ERR code of an error (R49, R465 to R467). -/
def errorNumber : ErrorKind → Word32
  | .insufficientData => 1
  | .malformedPoint => 2
  | .entropyFailure => 3

/-- How a command's own effect ends (R460). -/
inductive Ending where
  /-- All writes are made; ERR is still to be cleared. -/
  | success (t : State)
  /-- `raise Fault(c)` (R22). -/
  | fault (c : FaultKind)
  /-- `raise Error(e)` (R22); `t` is the state before the command, but for an answer that the entropy
  source has given. -/
  | error (e : ErrorKind) (t : State)

/-- Fault entry (R463): FAULT and FINFO are written, nothing else. -/
def takeFault (c : FaultKind) (w : Word32) (s : State) : State :=
  { s with fault := faultNumber c, finfo := w }

/-- Reset (R500), the only way out of the halt (R464). The fields of the model's own stand for the host and
the entropy source, which are outside the engine, and stay (log 18). -/
def resetEngine (s : State) : State :=
  { State.reset with host := s.host, hostData := s.hostData, entropy := s.entropy, draws := s.draws }

/-- Error delivery (R468): ERR is written, nothing else. -/
def takeError (e : ErrorKind) (s : State) : State :=
  { s with err := errorNumber e }

/-- A command that ends without fault or error writes ERR <- 0 (R22, R49). -/
def succeed (s : State) : State :=
  { s with err := 0 }

/-- The outcome of a command word `w` in state `s` from the ending of its effect (R460). -/
def finish (w : Word32) (s : State) : Ending → Host.Outcome State Fault Refusal
  | .success t => .next (succeed t)
  | .fault c => .next (takeFault c w s)
  | .error e t => .next (takeError e t)

/-- Steps 1 and 2 of R470, then the command's own effect: while halted nothing changes (R47); an illegal
command faults (R137). -/
def runCommand (i : Instr) (s : State) (effect : Ending) : Host.Outcome State Fault Refusal :=
  if halted s then .next s
  else if i.wellFormed then finish (encode i) s effect
  else .next (takeFault .illegalCommand (encode i) s)

/-! ### The window -/

/-- BPTR + BLEN, on unbounded integers (R80, R81). -/
def windowEnd (s : State) : Nat := s.bptr.toNat + s.blen.toNat

/-- The checks of a decoder of `len` bytes (R82), then its effect on the bytes. -/
def withWindow (len : Nat) (s : State) (effect : List Byte → Ending) : Ending :=
  if Config.bufBytes < windowEnd s then .fault .bufferBounds
  else if s.blen.toNat < len then .error .insufficientData s
  else
    match memReadRange s.dbuf s.bptr.toNat len with
    | none => .fault .uninitOperand
    | some bytes => effect bytes

/-- The checks of an encoder of `len` bytes (R82), then its effect. -/
def withRoom (len : Nat) (s : State) (effect : Ending) : Ending :=
  if Config.bufBytes < windowEnd s then .fault .bufferBounds
  else if Config.bufBytes < windowEnd s + len then .fault .bufferBounds
  else effect

/-- The window update of `Consume` (R21, R52, R53). -/
def consume (len : Nat) (s : State) : State :=
  { s with bptr := s.bptr + BitVec.ofNat 32 len, blen := s.blen - BitVec.ofNat 32 len }

/-- `Append` (R21, R53). -/
def append (bytes : List Byte) (s : State) : State :=
  { s with
    dbuf := memWriteRange s.dbuf (windowEnd s) bytes
    blen := s.blen + BitVec.ofNat 32 bytes.length }

/-! ### The entropy source -/

/-- One request (R440): the first waiting answer, else a free one (log 9). -/
def entropyAnswer (s : State) : EntropyAnswer :=
  match s.entropy with
  | a :: _ => a
  | [] => Config.freeAnswer s.draws

/-- The state after a request. -/
def afterRequest (s : State) : State :=
  match s.entropy with
  | _ :: rest => { s with entropy := rest }
  | [] => { s with draws := s.draws + 1 }

/-- The scalar of an answer: itself if 1 ≤ r < n, and in [1, n) always (R440; log 17). -/
def drawnScalar (r : Nat) : Nat :=
  1 + (r - 1) % (Config.params.n - 1)

end Sys2Proof.Machine
end

