-- ==== Sys2Proof/Machine/Shapes.lean ====
section
/-!
DEFINITION. The shapes the commands share: sources are read, the result is computed, the writes are made
(R24). Each shape is the effect of a command that is neither halted nor illegal.
-/

namespace Sys2Proof.Machine

/-- No source, one destination (`*.ZERO`, `*.ONE`, `*.INF`, `K.LDI`). -/
def constant {α : Type} (dst : RegFile α) (rd : Field6) (v : α) (s : State) : Ending :=
  .success (dst.write s rd v)

/-- One source, one destination. -/
def unary {α β : Type} (src : RegFile α) (dst : RegFile β) (op : α → β) (rd ra : Field6)
    (s : State) : Ending :=
  match src.read s ra with
  | some a => .success (dst.write s rd (op a))
  | none => .fault .uninitOperand

/-- One source, one destination, the source not zero (R171, R208, R239, R269, R406). -/
def unaryNonzero {α β : Type} [DecidableEq α] (src : RegFile α) (dst : RegFile β) (zero : α)
    (op : α → β) (rd ra : Field6) (s : State) : Ending :=
  match src.read s ra with
  | some a => if a = zero then .fault .invertZero else .success (dst.write s rd (op a))
  | none => .fault .uninitOperand

/-- Two sources, one destination. -/
def binary {α β γ : Type} (srcA : RegFile α) (srcB : RegFile β) (dst : RegFile γ)
    (op : α → β → γ) (rd ra rb : Field6) (s : State) : Ending :=
  match srcA.read s ra, srcB.read s rb with
  | some a, some b => .success (dst.write s rd (op a b))
  | _, _ => .fault .uninitOperand

/-- Three sources, one destination (R303). -/
def ternary {α β : Type} (src : RegFile α) (dst : RegFile β) (op : α → α → α → β)
    (rd ra rb rc : Field6) (s : State) : Ending :=
  match src.read s ra, src.read s rb, src.read s rc with
  | some a, some b, some c => .success (dst.write s rd (op a b c))
  | _, _, _ => .fault .uninitOperand

/-- One source, the flag RES. -/
def test {α : Type} (src : RegFile α) (holds : α → Bool) (ra : Field6) (s : State) : Ending :=
  match src.read s ra with
  | some a => .success (setRes s (holds a))
  | none => .fault .uninitOperand

/-- Two sources, the flag RES. -/
def test2 {α : Type} (src : RegFile α) (holds : α → α → Bool) (ra rb : Field6) (s : State) :
    Ending :=
  match src.read s ra, src.read s rb with
  | some a, some b => .success (setRes s (holds a b))
  | _, _ => .fault .uninitOperand

/-- One source, `len` bytes appended (R82). -/
def encodeReg {α : Type} (src : RegFile α) (len : Nat) (bytes : α → List Byte) (ra : Field6)
    (s : State) : Ending :=
  match src.read s ra with
  | some a => withRoom len s (.success (append (bytes a) s))
  | none => .fault .uninitOperand

/-- `len` bytes consumed, one destination (R82). -/
def decodeReg {α : Type} (dst : RegFile α) (len : Nat) (value : List Byte → α) (rd : Field6)
    (s : State) : Ending :=
  withWindow len s fun bytes => .success (consume len (dst.write s rd (value bytes)))

/-! ### Points -/

/-- A quadruple with affine image `p`, the draw choosing which (R312 to R314, R322, R324). -/
def writePoint {F : Type} [DecidableEq F] (G : PointGroup F) (rd : Field6) (p : Aff F) (s : State) :
    State :=
  let t := G.file.write s rd (Jac.drawn G.ops (G.draw s) p)
  { t with draws := s.draws + 1 }

/-- A point command with one point source: the group operation on its affine image. -/
def pointUnary {F : Type} [DecidableEq F] (G : PointGroup F) (op : Aff F → Aff F) (rd ra : Field6)
    (s : State) : Ending :=
  match G.file.read s ra with
  | some p => .success (writePoint G rd (op (affineOf G.ops p)) s)
  | none => .fault .uninitOperand

/-- The addition of R312 and R342: an infinite operand gives an exact copy of the other; equal affine
images go to the doubling, whose image is also aff(P) ⊕ aff(Q). -/
def pointAdd {F : Type} [DecidableEq F] (G : PointGroup F) (rd ra rb : Field6) (s : State) :
    Ending :=
  match G.file.read s ra, G.file.read s rb with
  | some p, some q =>
    if p.z = G.ops.zero then .success (G.file.write s rd q)
    else if q.z = G.ops.zero then .success (G.file.write s rd p)
    else .success (writePoint G rd (Aff.add G.ops (affineOf G.ops p) (affineOf G.ops q)) s)
  | _, _ => .fault .uninitOperand

/-- [s]P for a point register and a scalar register (R373, R376). -/
def pointMul {F : Type} [DecidableEq F] (G : PointGroup F) (rd ra kb : Field6) (s : State) :
    Ending :=
  match G.file.read s ra, kFile.read s kb with
  | some p, some e => .success (writePoint G rd (Aff.smul G.ops e (affineOf G.ops p)) s)
  | _, _ => .fault .uninitOperand

/-- [s]G for a fixed point and a scalar register (R374, R377). -/
def pointBaseMul {F : Type} [DecidableEq F] (G : PointGroup F) (base : Aff F) (rd kb : Field6)
    (s : State) : Ending :=
  match kFile.read s kb with
  | some e => .success (writePoint G rd (Aff.smul G.ops e base) s)
  | none => .fault .uninitOperand

/-- A random scalar and its multiple of a fixed point (R438, R439). -/
def pointRandom {F : Type} [DecidableEq F] (G : PointGroup F) (base : Aff F) (rd kd : Field6)
    (s : State) : Ending :=
  match entropyAnswer s with
  | .fail => .error .entropyFailure (afterRequest s)
  | .scalar r =>
    let e := drawnScalar r
    .success (writePoint G rd (Aff.smul G.ops e base) (kFile.write (afterRequest s) kd e))

/-- The decoding of a point (R433, R435): the all-zero pattern is infinity, else the candidate
(x, y, 1, 1) must pass the validity predicate. -/
def pointDecode {F : Type} (G : PointGroup F) (len : Nat) (allZero : List Byte → Bool)
    (coords : List Byte → F × F) (rd : Field6) (s : State) : Ending :=
  withWindow len s fun bytes =>
    if allZero bytes then .success (consume len (G.file.write s rd (Jac.infinity G.ops)))
    else
      let c := coords bytes
      if G.onCurve (.pt c.1 c.2) then
        .success (consume len (G.file.write s rd (Jac.ofAffine G.ops c.1 c.2)))
      else .error .malformedPoint s

/-- The all-zero test of `ALLZERO_ON` (R436): on the bytes, or on the decoded limbs. -/
def allZeroPattern (limbs : Nat) (bytes : List Byte) : Bool :=
  match Config.allZeroOn with
  | .bytes => (List.range limbs).all fun j => limbNat bytes j == 0
  | .values => (List.range limbs).all fun j => limbNat bytes j % Config.params.p == 0

end Sys2Proof.Machine
end

