-- ==== Sys2Proof/Machine/Fp.lean ====
section
/-!
DEFINITION. The meanings of the Fp commands (40_fp R165 to R179).
-/

namespace Sys2Proof.Machine

/-- `FP.ADD` (R166). -/
def execFpAdd (rd ra rb : Field6) (s : State) : Host.Outcome State Fault Refusal :=
  runCommand (.fpAdd rd ra rb) s
    (binary fpFile fpFile fpFile (Fp.add Config.params) rd ra rb s)

/-- `FP.SUB` (R167). -/
def execFpSub (rd ra rb : Field6) (s : State) : Host.Outcome State Fault Refusal :=
  runCommand (.fpSub rd ra rb) s
    (binary fpFile fpFile fpFile (Fp.sub Config.params) rd ra rb s)

/-- `FP.NEG` (R168). -/
def execFpNeg (rd ra : Field6) (s : State) : Host.Outcome State Fault Refusal :=
  runCommand (.fpNeg rd ra) s
    (unary fpFile fpFile (Fp.neg Config.params) rd ra s)

/-- `FP.MUL` (R169). -/
def execFpMul (rd ra rb : Field6) (s : State) : Host.Outcome State Fault Refusal :=
  runCommand (.fpMul rd ra rb) s
    (binary fpFile fpFile fpFile (Fp.mul Config.params) rd ra rb s)

/-- `FP.SQR` (R170). -/
def execFpSqr (rd ra : Field6) (s : State) : Host.Outcome State Fault Refusal :=
  runCommand (.fpSqr rd ra) s
    (unary fpFile fpFile (Fp.sqr Config.params) rd ra s)

/-- `FP.INV` (R171). -/
def execFpInv (rd ra : Field6) (s : State) : Host.Outcome State Fault Refusal :=
  runCommand (.fpInv rd ra) s
    (unaryNonzero fpFile fpFile Fp.zero (Fp.inv Config.params) rd ra s)

/-- `FP.ZERO` (R172). -/
def execFpZero (rd : Field6) (s : State) : Host.Outcome State Fault Refusal :=
  runCommand (.fpZero rd) s
    (constant fpFile rd Fp.zero s)

/-- `FP.ONE` (R173). -/
def execFpOne (rd : Field6) (s : State) : Host.Outcome State Fault Refusal :=
  runCommand (.fpOne rd) s
    (constant fpFile rd (Fp.one Config.params) s)

/-- `FP.ISZERO` (R174). -/
def execFpIszero (ra : Field6) (s : State) : Host.Outcome State Fault Refusal :=
  runCommand (.fpIszero ra) s
    (test fpFile (fun a => a == Fp.zero) ra s)

/-- `FP.ISONE` (R175). -/
def execFpIsone (ra : Field6) (s : State) : Host.Outcome State Fault Refusal :=
  runCommand (.fpIsone ra) s
    (test fpFile (fun a => a == Fp.one Config.params) ra s)

/-- `FP.EQ` (R176). -/
def execFpEq (ra rb : Field6) (s : State) : Host.Outcome State Fault Refusal :=
  runCommand (.fpEq ra rb) s
    (test2 fpFile (fun a b => a == b) ra rb s)

/-- `FP.MOV` (R177). -/
def execFpMov (rd ra : Field6) (s : State) : Host.Outcome State Fault Refusal :=
  runCommand (.fpMov rd ra) s
    (unary fpFile fpFile id rd ra s)

/-- `FP.ENC` (R178). -/
def execFpEnc (ra : Field6) (s : State) : Host.Outcome State Fault Refusal :=
  runCommand (.fpEnc ra) s
    (encodeReg fpFile 32 (Fp.toBytes Config.params) ra s)

/-- `FP.DEC` (R179). -/
def execFpDec (rd : Field6) (s : State) : Host.Outcome State Fault Refusal :=
  runCommand (.fpDec rd) s
    (decodeReg fpFile 32 (fun b => Fp.ofLimb Config.params b 0) rd s)

end Sys2Proof.Machine
end

