-- ==== Sys2Proof/Machine/Fp12.lean ====
section
/-!
DEFINITION. The meanings of the Fp12 and GT commands (43_fp12 R264 to R283).
-/

namespace Sys2Proof.Machine

/-- `FP12.ADD` (R264). -/
def execFp12Add (rd ra rb : Field6) (s : State) : Host.Outcome State Fault Refusal :=
  runCommand (.fp12Add rd ra rb) s
    (binary fp12File fp12File fp12File (Fp12.add Config.params) rd ra rb s)

/-- `FP12.SUB` (R265). -/
def execFp12Sub (rd ra rb : Field6) (s : State) : Host.Outcome State Fault Refusal :=
  runCommand (.fp12Sub rd ra rb) s
    (binary fp12File fp12File fp12File (Fp12.sub Config.params) rd ra rb s)

/-- `FP12.NEG` (R266). -/
def execFp12Neg (rd ra : Field6) (s : State) : Host.Outcome State Fault Refusal :=
  runCommand (.fp12Neg rd ra) s
    (unary fp12File fp12File (Fp12.neg Config.params) rd ra s)

/-- `FP12.MUL` (R267). -/
def execFp12Mul (rd ra rb : Field6) (s : State) : Host.Outcome State Fault Refusal :=
  runCommand (.fp12Mul rd ra rb) s
    (binary fp12File fp12File fp12File (Fp12.mul Config.params) rd ra rb s)

/-- `FP12.SQR` (R268). -/
def execFp12Sqr (rd ra : Field6) (s : State) : Host.Outcome State Fault Refusal :=
  runCommand (.fp12Sqr rd ra) s
    (unary fp12File fp12File (Fp12.sqr Config.params) rd ra s)

/-- `FP12.INV` (R269). -/
def execFp12Inv (rd ra : Field6) (s : State) : Host.Outcome State Fault Refusal :=
  runCommand (.fp12Inv rd ra) s
    (unaryNonzero fp12File fp12File Fp12.zero (Fp12.inv Config.params) rd ra s)

/-- `FP12.ZERO` (R270). -/
def execFp12Zero (rd : Field6) (s : State) : Host.Outcome State Fault Refusal :=
  runCommand (.fp12Zero rd) s
    (constant fp12File rd Fp12.zero s)

/-- `FP12.ONE` (R271). -/
def execFp12One (rd : Field6) (s : State) : Host.Outcome State Fault Refusal :=
  runCommand (.fp12One rd) s
    (constant fp12File rd (Fp12.one Config.params) s)

/-- `FP12.ISZERO` (R272). -/
def execFp12Iszero (ra : Field6) (s : State) : Host.Outcome State Fault Refusal :=
  runCommand (.fp12Iszero ra) s
    (test fp12File (fun a => a == Fp12.zero) ra s)

/-- `FP12.ISONE` (R273). -/
def execFp12Isone (ra : Field6) (s : State) : Host.Outcome State Fault Refusal :=
  runCommand (.fp12Isone ra) s
    (test fp12File (fun a => a == Fp12.one Config.params) ra s)

/-- `FP12.EQ` (R274). -/
def execFp12Eq (ra rb : Field6) (s : State) : Host.Outcome State Fault Refusal :=
  runCommand (.fp12Eq ra rb) s
    (test2 fp12File (fun a b => a == b) ra rb s)

/-- `FP12.MOV` (R275). -/
def execFp12Mov (rd ra : Field6) (s : State) : Host.Outcome State Fault Refusal :=
  runCommand (.fp12Mov rd ra) s
    (unary fp12File fp12File id rd ra s)

/-- `FP12.ENC` (R276). -/
def execFp12Enc (ra : Field6) (s : State) : Host.Outcome State Fault Refusal :=
  runCommand (.fp12Enc ra) s
    (encodeReg fp12File 384 (Fp12.toBytes Config.params) ra s)

/-- `FP12.DEC` (R277). -/
def execFp12Dec (rd : Field6) (s : State) : Host.Outcome State Fault Refusal :=
  runCommand (.fp12Dec rd) s
    (decodeReg fp12File 384 (Fp12.ofBytes Config.params) rd s)

/-- `FP12.FROB` (R278). -/
def execFp12Frob (rd ra : Field6) (s : State) : Host.Outcome State Fault Refusal :=
  runCommand (.fp12Frob rd ra) s
    (unary fp12File fp12File (Fp12.frob Config.params) rd ra s)

/-- `FP12.FROBP2` (R279). -/
def execFp12Frobp2 (rd ra : Field6) (s : State) : Host.Outcome State Fault Refusal :=
  runCommand (.fp12Frobp2 rd ra) s
    (unary fp12File fp12File (Fp12.frobP2 Config.params) rd ra s)

/-- `FP12.FROBP4` (R280). -/
def execFp12Frobp4 (rd ra : Field6) (s : State) : Host.Outcome State Fault Refusal :=
  runCommand (.fp12Frobp4 rd ra) s
    (unary fp12File fp12File (Fp12.frobP4 Config.params) rd ra s)

/-- `FP12.CONJ` (R281). -/
def execFp12Conj (rd ra : Field6) (s : State) : Host.Outcome State Fault Refusal :=
  runCommand (.fp12Conj rd ra) s
    (unary fp12File fp12File (Fp12.conj Config.params) rd ra s)

/-- `FP12.EXP` (R282). -/
def execFp12Exp (rd ra kb : Field6) (s : State) : Host.Outcome State Fault Refusal :=
  runCommand (.fp12Exp rd ra kb) s
    (binary fp12File kFile fp12File (Fp12.pow Config.params) rd ra kb s)

/-- `GT.BASEEXP` (R283). -/
def execGtBaseexp (rd kb : Field6) (s : State) : Host.Outcome State Fault Refusal :=
  runCommand (.gtBaseexp rd kb) s
    (unary kFile fp12File (Fp12.pow Config.params (gtGen Config.params)) rd kb s)

end Sys2Proof.Machine
end

