-- ==== Sys2Proof/Machine/Fp2.lean ====
section
/-!
DEFINITION. The meanings of the Fp2 commands (41_fp2 R203 to R217).
-/

namespace Sys2Proof.Machine

/-- `FP2.ADD` (R203). -/
def execFp2Add (rd ra rb : Field6) (s : State) : Host.Outcome State Fault Refusal :=
  runCommand (.fp2Add rd ra rb) s
    (binary fp2File fp2File fp2File (Fp2.add Config.params) rd ra rb s)

/-- `FP2.SUB` (R204). -/
def execFp2Sub (rd ra rb : Field6) (s : State) : Host.Outcome State Fault Refusal :=
  runCommand (.fp2Sub rd ra rb) s
    (binary fp2File fp2File fp2File (Fp2.sub Config.params) rd ra rb s)

/-- `FP2.NEG` (R205). -/
def execFp2Neg (rd ra : Field6) (s : State) : Host.Outcome State Fault Refusal :=
  runCommand (.fp2Neg rd ra) s
    (unary fp2File fp2File (Fp2.neg Config.params) rd ra s)

/-- `FP2.MUL` (R206). -/
def execFp2Mul (rd ra rb : Field6) (s : State) : Host.Outcome State Fault Refusal :=
  runCommand (.fp2Mul rd ra rb) s
    (binary fp2File fp2File fp2File (Fp2.mul Config.params) rd ra rb s)

/-- `FP2.SQR` (R207). -/
def execFp2Sqr (rd ra : Field6) (s : State) : Host.Outcome State Fault Refusal :=
  runCommand (.fp2Sqr rd ra) s
    (unary fp2File fp2File (Fp2.sqr Config.params) rd ra s)

/-- `FP2.INV` (R208). -/
def execFp2Inv (rd ra : Field6) (s : State) : Host.Outcome State Fault Refusal :=
  runCommand (.fp2Inv rd ra) s
    (unaryNonzero fp2File fp2File Fp2.zero (Fp2.inv Config.params) rd ra s)

/-- `FP2.ZERO` (R209). -/
def execFp2Zero (rd : Field6) (s : State) : Host.Outcome State Fault Refusal :=
  runCommand (.fp2Zero rd) s
    (constant fp2File rd Fp2.zero s)

/-- `FP2.ONE` (R210). -/
def execFp2One (rd : Field6) (s : State) : Host.Outcome State Fault Refusal :=
  runCommand (.fp2One rd) s
    (constant fp2File rd (Fp2.one Config.params) s)

/-- `FP2.ISZERO` (R211). -/
def execFp2Iszero (ra : Field6) (s : State) : Host.Outcome State Fault Refusal :=
  runCommand (.fp2Iszero ra) s
    (test fp2File (fun a => a == Fp2.zero) ra s)

/-- `FP2.ISONE` (R212). -/
def execFp2Isone (ra : Field6) (s : State) : Host.Outcome State Fault Refusal :=
  runCommand (.fp2Isone ra) s
    (test fp2File (fun a => a == Fp2.one Config.params) ra s)

/-- `FP2.EQ` (R213). -/
def execFp2Eq (ra rb : Field6) (s : State) : Host.Outcome State Fault Refusal :=
  runCommand (.fp2Eq ra rb) s
    (test2 fp2File (fun a b => a == b) ra rb s)

/-- `FP2.MOV` (R214). -/
def execFp2Mov (rd ra : Field6) (s : State) : Host.Outcome State Fault Refusal :=
  runCommand (.fp2Mov rd ra) s
    (unary fp2File fp2File id rd ra s)

/-- `FP2.ENC` (R215). -/
def execFp2Enc (ra : Field6) (s : State) : Host.Outcome State Fault Refusal :=
  runCommand (.fp2Enc ra) s
    (encodeReg fp2File 64 (Fp2.toBytes Config.params) ra s)

/-- `FP2.DEC` (R216). -/
def execFp2Dec (rd : Field6) (s : State) : Host.Outcome State Fault Refusal :=
  runCommand (.fp2Dec rd) s
    (decodeReg fp2File 64 (fun b => Fp2.ofLimbs Config.params b 0) rd s)

/-- `FP2.MULXI` (R217). -/
def execFp2Mulxi (rd ra : Field6) (s : State) : Host.Outcome State Fault Refusal :=
  runCommand (.fp2Mulxi rd ra) s
    (unary fp2File fp2File (Fp2.mulXi Config.params) rd ra s)

end Sys2Proof.Machine
end

