-- ==== Sys2Proof/Machine/Fp6.lean ====
section
/-!
DEFINITION. The meanings of the Fp6 commands (42_fp6 R234 to R249).
-/

namespace Sys2Proof.Machine

/-- `FP6.ADD` (R234). -/
def execFp6Add (rd ra rb : Field6) (s : State) : Host.Outcome State Fault Refusal :=
  runCommand (.fp6Add rd ra rb) s
    (binary fp6File fp6File fp6File (Fp6.add Config.params) rd ra rb s)

/-- `FP6.SUB` (R235). -/
def execFp6Sub (rd ra rb : Field6) (s : State) : Host.Outcome State Fault Refusal :=
  runCommand (.fp6Sub rd ra rb) s
    (binary fp6File fp6File fp6File (Fp6.sub Config.params) rd ra rb s)

/-- `FP6.NEG` (R236). -/
def execFp6Neg (rd ra : Field6) (s : State) : Host.Outcome State Fault Refusal :=
  runCommand (.fp6Neg rd ra) s
    (unary fp6File fp6File (Fp6.neg Config.params) rd ra s)

/-- `FP6.MUL` (R237). -/
def execFp6Mul (rd ra rb : Field6) (s : State) : Host.Outcome State Fault Refusal :=
  runCommand (.fp6Mul rd ra rb) s
    (binary fp6File fp6File fp6File (Fp6.mul Config.params) rd ra rb s)

/-- `FP6.SQR` (R238). -/
def execFp6Sqr (rd ra : Field6) (s : State) : Host.Outcome State Fault Refusal :=
  runCommand (.fp6Sqr rd ra) s
    (unary fp6File fp6File (Fp6.sqr Config.params) rd ra s)

/-- `FP6.INV` (R239). -/
def execFp6Inv (rd ra : Field6) (s : State) : Host.Outcome State Fault Refusal :=
  runCommand (.fp6Inv rd ra) s
    (unaryNonzero fp6File fp6File Fp6.zero (Fp6.inv Config.params) rd ra s)

/-- `FP6.ZERO` (R240). -/
def execFp6Zero (rd : Field6) (s : State) : Host.Outcome State Fault Refusal :=
  runCommand (.fp6Zero rd) s
    (constant fp6File rd Fp6.zero s)

/-- `FP6.ONE` (R241). -/
def execFp6One (rd : Field6) (s : State) : Host.Outcome State Fault Refusal :=
  runCommand (.fp6One rd) s
    (constant fp6File rd (Fp6.one Config.params) s)

/-- `FP6.ISZERO` (R242). -/
def execFp6Iszero (ra : Field6) (s : State) : Host.Outcome State Fault Refusal :=
  runCommand (.fp6Iszero ra) s
    (test fp6File (fun a => a == Fp6.zero) ra s)

/-- `FP6.ISONE` (R243). -/
def execFp6Isone (ra : Field6) (s : State) : Host.Outcome State Fault Refusal :=
  runCommand (.fp6Isone ra) s
    (test fp6File (fun a => a == Fp6.one Config.params) ra s)

/-- `FP6.EQ` (R244). -/
def execFp6Eq (ra rb : Field6) (s : State) : Host.Outcome State Fault Refusal :=
  runCommand (.fp6Eq ra rb) s
    (test2 fp6File (fun a b => a == b) ra rb s)

/-- `FP6.MOV` (R245). -/
def execFp6Mov (rd ra : Field6) (s : State) : Host.Outcome State Fault Refusal :=
  runCommand (.fp6Mov rd ra) s
    (unary fp6File fp6File id rd ra s)

/-- `FP6.FROB` (R246). -/
def execFp6Frob (rd ra : Field6) (s : State) : Host.Outcome State Fault Refusal :=
  runCommand (.fp6Frob rd ra) s
    (unary fp6File fp6File (Fp6.frob Config.params) rd ra s)

/-- `FP6.FROBP2` (R247). -/
def execFp6Frobp2 (rd ra : Field6) (s : State) : Host.Outcome State Fault Refusal :=
  runCommand (.fp6Frobp2 rd ra) s
    (unary fp6File fp6File (Fp6.frobP2 Config.params) rd ra s)

/-- `FP6.FROBP4` (R248). -/
def execFp6Frobp4 (rd ra : Field6) (s : State) : Host.Outcome State Fault Refusal :=
  runCommand (.fp6Frobp4 rd ra) s
    (unary fp6File fp6File (Fp6.frobP4 Config.params) rd ra s)

/-- `FP6.MULTAU` (R249). -/
def execFp6Multau (rd ra : Field6) (s : State) : Host.Outcome State Fault Refusal :=
  runCommand (.fp6Multau rd ra) s
    (unary fp6File fp6File (Fp6.mulTau Config.params) rd ra s)

end Sys2Proof.Machine
end

