-- ==== Sys2Proof/Machine/G1.lean ====
section
/-!
DEFINITION. The meanings of the G1 commands (45_g1 R312 to R319; 47_scalar_mult R373, R374;
49_codec_facade R432, R433, R438).
-/

namespace Sys2Proof.Machine

/-- `G1.ADD` (R312). -/
def execG1Add (rd ra rb : Field6) (s : State) : Host.Outcome State Fault Refusal :=
  runCommand (.g1Add rd ra rb) s
    (pointAdd g1Group rd ra rb s)

/-- `G1.DBL` (R313). -/
def execG1Dbl (rd ra : Field6) (s : State) : Host.Outcome State Fault Refusal :=
  runCommand (.g1Dbl rd ra) s
    (pointUnary g1Group (fun p => Aff.add g1Group.ops p p) rd ra s)

/-- `G1.NEG` (R314). -/
def execG1Neg (rd ra : Field6) (s : State) : Host.Outcome State Fault Refusal :=
  runCommand (.g1Neg rd ra) s
    (pointUnary g1Group (Aff.neg g1Group.ops) rd ra s)

/-- `G1.MUL` (R373). -/
def execG1Mul (rd ra kb : Field6) (s : State) : Host.Outcome State Fault Refusal :=
  runCommand (.g1Mul rd ra kb) s
    (pointMul g1Group rd ra kb s)

/-- `G1.BASEMUL` (R374). -/
def execG1Basemul (rd kb : Field6) (s : State) : Host.Outcome State Fault Refusal :=
  runCommand (.g1Basemul rd kb) s
    (pointBaseMul g1Group (g1Gen Config.params) rd kb s)

/-- `G1.AFF` (R315). -/
def execG1Aff (rd ra : Field6) (s : State) : Host.Outcome State Fault Refusal :=
  runCommand (.g1Aff rd ra) s
    (unary g1File g1File (Jac.normalise g1Group.ops) rd ra s)

/-- `G1.ONCURVE` (R317). -/
def execG1Oncurve (ra : Field6) (s : State) : Host.Outcome State Fault Refusal :=
  runCommand (.g1Oncurve ra) s
    (test g1File (fun p => g1Group.onCurve (affineOf g1Group.ops p)) ra s)

/-- `G1.INF` (R318). -/
def execG1Inf (rd : Field6) (s : State) : Host.Outcome State Fault Refusal :=
  runCommand (.g1Inf rd) s
    (constant g1File rd (Jac.infinity g1Group.ops) s)

/-- `G1.MOV` (R319). -/
def execG1Mov (rd ra : Field6) (s : State) : Host.Outcome State Fault Refusal :=
  runCommand (.g1Mov rd ra) s
    (unary g1File g1File id rd ra s)

/-- `G1.MARSHAL` (R432). -/
def execG1Marshal (ra : Field6) (s : State) : Host.Outcome State Fault Refusal :=
  runCommand (.g1Marshal ra) s
    (encodeReg g1File 64 (fun p => g1Bytes Config.params (affineOf g1Group.ops p)) ra s)

/-- `G1.UNMARSHAL` (R433). -/
def execG1Unmarshal (rd : Field6) (s : State) : Host.Outcome State Fault Refusal :=
  runCommand (.g1Unmarshal rd) s
    (pointDecode g1Group 64 (allZeroPattern 2)
      (fun b => (Fp.ofLimb Config.params b 0, Fp.ofLimb Config.params b 1)) rd s)

/-- `G1.RANDOM` (R438). -/
def execG1Random (rd kd : Field6) (s : State) : Host.Outcome State Fault Refusal :=
  runCommand (.g1Random rd kd) s
    (pointRandom g1Group (g1Gen Config.params) rd kd s)

end Sys2Proof.Machine
end

