-- ==== Sys2Proof/Machine/G2.lean ====
section
/-!
DEFINITION. The meanings of the G2 commands (46_g2 R342 to R349; 47_scalar_mult R376, R377;
49_codec_facade R434, R435, R439).
-/

namespace Sys2Proof.Machine

/-- `G2.ADD` (R342). -/
def execG2Add (rd ra rb : Field6) (s : State) : Host.Outcome State Fault Refusal :=
  runCommand (.g2Add rd ra rb) s
    (pointAdd g2Group rd ra rb s)

/-- `G2.DBL` (R343). -/
def execG2Dbl (rd ra : Field6) (s : State) : Host.Outcome State Fault Refusal :=
  runCommand (.g2Dbl rd ra) s
    (pointUnary g2Group (fun p => Aff.add g2Group.ops p p) rd ra s)

/-- `G2.NEG` (R344). -/
def execG2Neg (rd ra : Field6) (s : State) : Host.Outcome State Fault Refusal :=
  runCommand (.g2Neg rd ra) s
    (pointUnary g2Group (Aff.neg g2Group.ops) rd ra s)

/-- `G2.MUL` (R376). -/
def execG2Mul (rd ra kb : Field6) (s : State) : Host.Outcome State Fault Refusal :=
  runCommand (.g2Mul rd ra kb) s
    (pointMul g2Group rd ra kb s)

/-- `G2.BASEMUL` (R377). -/
def execG2Basemul (rd kb : Field6) (s : State) : Host.Outcome State Fault Refusal :=
  runCommand (.g2Basemul rd kb) s
    (pointBaseMul g2Group (g2Gen Config.params) rd kb s)

/-- `G2.AFF` (R345). -/
def execG2Aff (rd ra : Field6) (s : State) : Host.Outcome State Fault Refusal :=
  runCommand (.g2Aff rd ra) s
    (unary g2File g2File (Jac.normalise g2Group.ops) rd ra s)

/-- `G2.ONCURVE` (R347). -/
def execG2Oncurve (ra : Field6) (s : State) : Host.Outcome State Fault Refusal :=
  runCommand (.g2Oncurve ra) s
    (test g2File (fun p => g2Group.onCurve (affineOf g2Group.ops p)) ra s)

/-- `G2.INF` (R348). -/
def execG2Inf (rd : Field6) (s : State) : Host.Outcome State Fault Refusal :=
  runCommand (.g2Inf rd) s
    (constant g2File rd (Jac.infinity g2Group.ops) s)

/-- `G2.MOV` (R349). -/
def execG2Mov (rd ra : Field6) (s : State) : Host.Outcome State Fault Refusal :=
  runCommand (.g2Mov rd ra) s
    (unary g2File g2File id rd ra s)

/-- `G2.MARSHAL` (R434). -/
def execG2Marshal (ra : Field6) (s : State) : Host.Outcome State Fault Refusal :=
  runCommand (.g2Marshal ra) s
    (encodeReg g2File 128 (fun p => g2Bytes Config.params (affineOf g2Group.ops p)) ra s)

/-- `G2.UNMARSHAL` (R435). -/
def execG2Unmarshal (rd : Field6) (s : State) : Host.Outcome State Fault Refusal :=
  runCommand (.g2Unmarshal rd) s
    (pointDecode g2Group 128 (allZeroPattern 4)
      (fun b => (Fp2.ofLimbs Config.params b 0, Fp2.ofLimbs Config.params b 2)) rd s)

/-- `G2.RANDOM` (R439). -/
def execG2Random (rd kd : Field6) (s : State) : Host.Outcome State Fault Refusal :=
  runCommand (.g2Random rd kd) s
    (pointRandom g2Group (g2Gen Config.params) rd kd s)

end Sys2Proof.Machine
end

