-- ==== Sys2Proof/Machine/Pairing.lean ====
section
/-!
DEFINITION. The meanings of the pairing commands (48_pairing R405 to R408).
-/

namespace Sys2Proof.Machine

/-- The effect of PAIRCHK (R408): the lists' shape, then every register of both lists, then the product of
the raw values and one final exponentiation. -/
def pairCheck (ra rb : Field6) (s : State) : Ending :=
  if s.lena = s.lenb then
    if Config.nG1 < ra.toNat + s.lena.toNat ∨ Config.nG2 < rb.toNat + s.lena.toNat then
      .fault .indexRange
    else
      match readRun s.g1 ra.toNat s.lena.toNat, readRun s.g2 rb.toNat s.lena.toNat with
      | some ps, some qs =>
        let pairs := (ps.map (affineOf g1Group.ops)).zip (qs.map (affineOf g2Group.ops))
        .success (setRes s
          (finalExp Config.params (millerProduct Config.params pairs) == Fp12.one Config.params))
      | _, _ => .fault .uninitOperand
  else .fault .indexRange

/-- `MILLER` (R405). -/
def execMiller (rd ra rb : Field6) (s : State) : Host.Outcome State Fault Refusal :=
  runCommand (.miller rd ra rb) s
    (binary g1File g2File fp12File
      (fun p q => millerOf Config.params (affineOf g1Group.ops p) (affineOf g2Group.ops q)) rd ra rb s)

/-- `FINALEXP` (R406). -/
def execFinalexp (rd ra : Field6) (s : State) : Host.Outcome State Fault Refusal :=
  runCommand (.finalexp rd ra) s
    (unaryNonzero fp12File fp12File Fp12.zero (finalExp Config.params) rd ra s)

/-- `PAIR` (R407). -/
def execPair (rd ra rb : Field6) (s : State) : Host.Outcome State Fault Refusal :=
  runCommand (.pair rd ra rb) s
    (binary g1File g2File fp12File
      (fun p q => pairOf Config.params (affineOf g1Group.ops p) (affineOf g2Group.ops q)) rd ra rb s)

/-- `PAIRCHK` (R408). -/
def execPairchk (ra rb : Field6) (s : State) : Host.Outcome State Fault Refusal :=
  runCommand (.pairchk ra rb) s
    (pairCheck ra rb s)

end Sys2Proof.Machine
end

