-- ==== Sys2Proof/Machine/Scalar.lean ====
section
/-!
DEFINITION. The meanings of the scalar commands (47_scalar_mult R378 to R381).
-/

namespace Sys2Proof.Machine

/-- The effect of K.ST (R379): room for 32 bytes, then the range of the scalar. -/
def storeScalar (ka : Field6) (s : State) : Ending :=
  match kFile.read s ka with
  | some e =>
    withRoom 32 s (if 2 ^ 256 ≤ e then .fault .scalarRange else .success (append (bytesBE e 32) s))
  | none => .fault .uninitOperand

/-- `K.LD` (R378). -/
def execKLd (kd : Field6) (s : State) : Host.Outcome State Fault Refusal :=
  runCommand (.kLd kd) s
    (withWindow s.blen.toNat s fun b =>
      .success (consume s.blen.toNat (kFile.write s kd (beNat b))))

/-- `K.ST` (R379). -/
def execKSt (ka : Field6) (s : State) : Host.Outcome State Fault Refusal :=
  runCommand (.kSt ka) s
    (storeScalar ka s)

/-- `K.LDI` (R380). -/
def execKLdi (kd : Field6) (imm : BitVec 18) (s : State) : Host.Outcome State Fault Refusal :=
  runCommand (.kLdi kd imm) s
    (constant kFile kd imm.toNat s)

/-- `K.MOV` (R381). -/
def execKMov (kd ka : Field6) (s : State) : Host.Outcome State Fault Refusal :=
  runCommand (.kMov kd ka) s
    (unary kFile kFile id kd ka s)

end Sys2Proof.Machine
end

