-- ==== Sys2Proof/Machine/Tower.lean ====
section
/-!
DEFINITION. The meanings of PACK and GET (44_tower_pack_get R300 to R306).
-/

namespace Sys2Proof

/-- The component of an Fp2 value that `sel` names: 0 for x, 1 for y (R302). -/
def Fp2.component (sel : Field6) (a : Fp2) : MontWord :=
  if sel = 0 then a.x else a.y

/-- The component of an Fp6 value that `sel` names: 0 for x, 1 for y, 2 for z (R304). -/
def Fp6.component (sel : Field6) (a : Fp6) : Fp2 :=
  if sel = 0 then a.x else if sel = 1 then a.y else a.z

/-- The component of an Fp12 value that `sel` names: 0 for x, 1 for y (R306). -/
def Fp12.component (sel : Field6) (a : Fp12) : Fp6 :=
  if sel = 0 then a.x else a.y

end Sys2Proof

namespace Sys2Proof.Machine

/-- `FP2.PACK` (R301). -/
def execFp2Pack (rd ra rb : Field6) (s : State) : Host.Outcome State Fault Refusal :=
  runCommand (.fp2Pack rd ra rb) s
    (binary fpFile fpFile fp2File Fp2.mk rd ra rb s)

/-- `FP2.GET` (R302). -/
def execFp2Get (rd ra sel : Field6) (s : State) : Host.Outcome State Fault Refusal :=
  runCommand (.fp2Get rd ra sel) s
    (unary fp2File fpFile (Fp2.component sel) rd ra s)

/-- `FP6.PACK` (R303). -/
def execFp6Pack (rd ra rb rc : Field6) (s : State) : Host.Outcome State Fault Refusal :=
  runCommand (.fp6Pack rd ra rb rc) s
    (ternary fp2File fp6File Fp6.mk rd ra rb rc s)

/-- `FP6.GET` (R304). -/
def execFp6Get (rd ra sel : Field6) (s : State) : Host.Outcome State Fault Refusal :=
  runCommand (.fp6Get rd ra sel) s
    (unary fp6File fp2File (Fp6.component sel) rd ra s)

/-- `FP12.PACK` (R305). -/
def execFp12Pack (rd ra rb : Field6) (s : State) : Host.Outcome State Fault Refusal :=
  runCommand (.fp12Pack rd ra rb) s
    (binary fp6File fp6File fp12File Fp12.mk rd ra rb s)

/-- `FP12.GET` (R306). -/
def execFp12Get (rd ra sel : Field6) (s : State) : Host.Outcome State Fault Refusal :=
  runCommand (.fp12Get rd ra sel) s
    (unary fp12File fp6File (Fp12.component sel) rd ra s)

end Sys2Proof.Machine
end

