-- ==== Sys2Proof/Machine/Dispatch.lean ====
section
/-!
DEFINITION. The meaning of each command of the opcode map (R128).
-/

namespace Sys2Proof.Machine

def exec (i : Instr) (s : State) : Host.Outcome State Fault Refusal :=
  match i with
  | .fpAdd rd ra rb => Sys2Proof.Machine.execFpAdd rd ra rb s
  | .fpSub rd ra rb => Sys2Proof.Machine.execFpSub rd ra rb s
  | .fpNeg rd ra => Sys2Proof.Machine.execFpNeg rd ra s
  | .fpMul rd ra rb => Sys2Proof.Machine.execFpMul rd ra rb s
  | .fpSqr rd ra => Sys2Proof.Machine.execFpSqr rd ra s
  | .fpInv rd ra => Sys2Proof.Machine.execFpInv rd ra s
  | .fpZero rd => Sys2Proof.Machine.execFpZero rd s
  | .fpOne rd => Sys2Proof.Machine.execFpOne rd s
  | .fpIszero ra => Sys2Proof.Machine.execFpIszero ra s
  | .fpIsone ra => Sys2Proof.Machine.execFpIsone ra s
  | .fpEq ra rb => Sys2Proof.Machine.execFpEq ra rb s
  | .fpMov rd ra => Sys2Proof.Machine.execFpMov rd ra s
  | .fpEnc ra => Sys2Proof.Machine.execFpEnc ra s
  | .fpDec rd => Sys2Proof.Machine.execFpDec rd s
  | .fp2Add rd ra rb => Sys2Proof.Machine.execFp2Add rd ra rb s
  | .fp2Sub rd ra rb => Sys2Proof.Machine.execFp2Sub rd ra rb s
  | .fp2Neg rd ra => Sys2Proof.Machine.execFp2Neg rd ra s
  | .fp2Mul rd ra rb => Sys2Proof.Machine.execFp2Mul rd ra rb s
  | .fp2Sqr rd ra => Sys2Proof.Machine.execFp2Sqr rd ra s
  | .fp2Inv rd ra => Sys2Proof.Machine.execFp2Inv rd ra s
  | .fp2Zero rd => Sys2Proof.Machine.execFp2Zero rd s
  | .fp2One rd => Sys2Proof.Machine.execFp2One rd s
  | .fp2Iszero ra => Sys2Proof.Machine.execFp2Iszero ra s
  | .fp2Isone ra => Sys2Proof.Machine.execFp2Isone ra s
  | .fp2Eq ra rb => Sys2Proof.Machine.execFp2Eq ra rb s
  | .fp2Mov rd ra => Sys2Proof.Machine.execFp2Mov rd ra s
  | .fp2Enc ra => Sys2Proof.Machine.execFp2Enc ra s
  | .fp2Dec rd => Sys2Proof.Machine.execFp2Dec rd s
  | .fp2Mulxi rd ra => Sys2Proof.Machine.execFp2Mulxi rd ra s
  | .fp6Add rd ra rb => Sys2Proof.Machine.execFp6Add rd ra rb s
  | .fp6Sub rd ra rb => Sys2Proof.Machine.execFp6Sub rd ra rb s
  | .fp6Neg rd ra => Sys2Proof.Machine.execFp6Neg rd ra s
  | .fp6Mul rd ra rb => Sys2Proof.Machine.execFp6Mul rd ra rb s
  | .fp6Sqr rd ra => Sys2Proof.Machine.execFp6Sqr rd ra s
  | .fp6Inv rd ra => Sys2Proof.Machine.execFp6Inv rd ra s
  | .fp6Zero rd => Sys2Proof.Machine.execFp6Zero rd s
  | .fp6One rd => Sys2Proof.Machine.execFp6One rd s
  | .fp6Iszero ra => Sys2Proof.Machine.execFp6Iszero ra s
  | .fp6Isone ra => Sys2Proof.Machine.execFp6Isone ra s
  | .fp6Eq ra rb => Sys2Proof.Machine.execFp6Eq ra rb s
  | .fp6Mov rd ra => Sys2Proof.Machine.execFp6Mov rd ra s
  | .fp6Frob rd ra => Sys2Proof.Machine.execFp6Frob rd ra s
  | .fp6Frobp2 rd ra => Sys2Proof.Machine.execFp6Frobp2 rd ra s
  | .fp6Frobp4 rd ra => Sys2Proof.Machine.execFp6Frobp4 rd ra s
  | .fp6Multau rd ra => Sys2Proof.Machine.execFp6Multau rd ra s
  | .fp12Add rd ra rb => Sys2Proof.Machine.execFp12Add rd ra rb s
  | .fp12Sub rd ra rb => Sys2Proof.Machine.execFp12Sub rd ra rb s
  | .fp12Neg rd ra => Sys2Proof.Machine.execFp12Neg rd ra s
  | .fp12Mul rd ra rb => Sys2Proof.Machine.execFp12Mul rd ra rb s
  | .fp12Sqr rd ra => Sys2Proof.Machine.execFp12Sqr rd ra s
  | .fp12Inv rd ra => Sys2Proof.Machine.execFp12Inv rd ra s
  | .fp12Zero rd => Sys2Proof.Machine.execFp12Zero rd s
  | .fp12One rd => Sys2Proof.Machine.execFp12One rd s
  | .fp12Iszero ra => Sys2Proof.Machine.execFp12Iszero ra s
  | .fp12Isone ra => Sys2Proof.Machine.execFp12Isone ra s
  | .fp12Eq ra rb => Sys2Proof.Machine.execFp12Eq ra rb s
  | .fp12Mov rd ra => Sys2Proof.Machine.execFp12Mov rd ra s
  | .fp12Enc ra => Sys2Proof.Machine.execFp12Enc ra s
  | .fp12Dec rd => Sys2Proof.Machine.execFp12Dec rd s
  | .fp12Frob rd ra => Sys2Proof.Machine.execFp12Frob rd ra s
  | .fp12Frobp2 rd ra => Sys2Proof.Machine.execFp12Frobp2 rd ra s
  | .fp12Frobp4 rd ra => Sys2Proof.Machine.execFp12Frobp4 rd ra s
  | .fp12Conj rd ra => Sys2Proof.Machine.execFp12Conj rd ra s
  | .fp12Exp rd ra kb => Sys2Proof.Machine.execFp12Exp rd ra kb s
  | .gtBaseexp rd kb => Sys2Proof.Machine.execGtBaseexp rd kb s
  | .g1Add rd ra rb => Sys2Proof.Machine.execG1Add rd ra rb s
  | .g1Dbl rd ra => Sys2Proof.Machine.execG1Dbl rd ra s
  | .g1Neg rd ra => Sys2Proof.Machine.execG1Neg rd ra s
  | .g1Mul rd ra kb => Sys2Proof.Machine.execG1Mul rd ra kb s
  | .g1Basemul rd kb => Sys2Proof.Machine.execG1Basemul rd kb s
  | .g1Aff rd ra => Sys2Proof.Machine.execG1Aff rd ra s
  | .g1Oncurve ra => Sys2Proof.Machine.execG1Oncurve ra s
  | .g1Inf rd => Sys2Proof.Machine.execG1Inf rd s
  | .g1Mov rd ra => Sys2Proof.Machine.execG1Mov rd ra s
  | .g1Marshal ra => Sys2Proof.Machine.execG1Marshal ra s
  | .g1Unmarshal rd => Sys2Proof.Machine.execG1Unmarshal rd s
  | .g1Random rd kd => Sys2Proof.Machine.execG1Random rd kd s
  | .g2Add rd ra rb => Sys2Proof.Machine.execG2Add rd ra rb s
  | .g2Dbl rd ra => Sys2Proof.Machine.execG2Dbl rd ra s
  | .g2Neg rd ra => Sys2Proof.Machine.execG2Neg rd ra s
  | .g2Mul rd ra kb => Sys2Proof.Machine.execG2Mul rd ra kb s
  | .g2Basemul rd kb => Sys2Proof.Machine.execG2Basemul rd kb s
  | .g2Aff rd ra => Sys2Proof.Machine.execG2Aff rd ra s
  | .g2Oncurve ra => Sys2Proof.Machine.execG2Oncurve ra s
  | .g2Inf rd => Sys2Proof.Machine.execG2Inf rd s
  | .g2Mov rd ra => Sys2Proof.Machine.execG2Mov rd ra s
  | .g2Marshal ra => Sys2Proof.Machine.execG2Marshal ra s
  | .g2Unmarshal rd => Sys2Proof.Machine.execG2Unmarshal rd s
  | .g2Random rd kd => Sys2Proof.Machine.execG2Random rd kd s
  | .miller rd ra rb => Sys2Proof.Machine.execMiller rd ra rb s
  | .finalexp rd ra => Sys2Proof.Machine.execFinalexp rd ra s
  | .pair rd ra rb => Sys2Proof.Machine.execPair rd ra rb s
  | .pairchk ra rb => Sys2Proof.Machine.execPairchk ra rb s
  | .fp2Pack rd ra rb => Sys2Proof.Machine.execFp2Pack rd ra rb s
  | .fp2Get rd ra sel => Sys2Proof.Machine.execFp2Get rd ra sel s
  | .fp6Pack rd ra rb rc => Sys2Proof.Machine.execFp6Pack rd ra rb rc s
  | .fp6Get rd ra sel => Sys2Proof.Machine.execFp6Get rd ra sel s
  | .fp12Pack rd ra rb => Sys2Proof.Machine.execFp12Pack rd ra rb s
  | .fp12Get rd ra sel => Sys2Proof.Machine.execFp12Get rd ra sel s
  | .kLd kd => Sys2Proof.Machine.execKLd kd s
  | .kSt ka => Sys2Proof.Machine.execKSt ka s
  | .kLdi kd imm => Sys2Proof.Machine.execKLdi kd imm s
  | .kMov kd ka => Sys2Proof.Machine.execKMov kd ka s

end Sys2Proof.Machine
end

