-- ==== Sys2Proof/Machine/HostPort.lean ====
section
/-!
DEFINITION. The host's accesses (10_state R46, R47, R67): a command word written to CMD, the other control
registers, the bytes of DBUF, and reset.
-/

namespace Sys2Proof.Machine

/-- A host write of `w` to CMD (R47): ignored while halted; an illegal word faults (R137); else the command
runs to its end. -/
def command (w : Word32) (s : State) : Host.Outcome State Fault Refusal :=
  if halted s then .next s
  else
    match decode w with
    | .ok i => exec i s
    | .error _ => .next (takeFault .illegalCommand w s)

/-- What a host read of control register `number` returns (R46): CMD and the numbers above 8 read 0. -/
def readControl (s : State) : Nat → Word32
  | 1 => statusWord s
  | 2 => s.err
  | 3 => s.fault
  | 4 => s.finfo
  | 5 => s.bptr
  | 6 => s.blen
  | 7 => s.lena
  | 8 => s.lenb
  | _ => 0

/-- A host write to a control register other than CMD (R46): the read-only registers and the numbers above 8
ignore it. -/
def writeControl (s : State) (v : Word32) : Nat → State
  | 5 => { s with bptr := v }
  | 6 => { s with blen := v }
  | 7 => { s with lena := v }
  | 8 => { s with lenb := v }
  | _ => s

/-- A host read of a byte that exists: the byte if it is valid, else a free value (R67; log 10). -/
def readBuffer (s : State) (j : Nat) : State :=
  match memRead s.dbuf j with
  | some b => { s with hostData := b.setWidth 32 }
  | none => { s with hostData := (Config.freeByte s.draws).setWidth 32, draws := s.draws + 1 }

/-- One access of the host (R67). -/
def access (a : HostAction) (s : State) : Host.Outcome State Fault Refusal :=
  match a with
  | .writeReg number v => if number = 0 then command v s else .next (writeControl s v number)
  | .readReg number => .next { s with hostData := readControl s number }
  | .writeByte j b =>
    if j < Config.bufBytes then .next { s with dbuf := memWrite s.dbuf j b }
    else .fault (.hostBufferIndex j)
  | .readByte j =>
    if j < Config.bufBytes then .next (readBuffer s j) else .fault (.hostBufferIndex j)
  | .reset => .next (resetEngine s)

end Sys2Proof.Machine
end

