-- ==== Sys2Proof/Machine/Step.lean ====
section
/-!
DEFINITION. One step: the host makes its next access (R40, R67). A command is one step, from start to end
(R40, R44).
-/

namespace Sys2Proof.Machine

/-- One step. With no access to come the engine is idle, and idle changes nothing (R484; log 5). -/
def step (s : State) : Host.Outcome State Fault Refusal :=
  match s.host with
  | [] => .next s
  | a :: rest => access a { s with host := rest }

/-- `s`, with the command word of `nbits` bits in `w` as the host's next write to CMD (log 4). -/
def State.withFetchWord (s : State) (nbits w : Nat) : State :=
  { s with host := .writeReg 0 (BitVec.ofNat 32 (w % 2 ^ nbits)) :: s.host }

end Sys2Proof.Machine
end

