-- ==== Sys2Proof/Safety.lean ====
section
/-!
DEFINITION. What counts as a safe run, and the terms the statements use: the registers a command names, the
bytes it appends, and the invariants of every reachable state.
-/

namespace Sys2Proof.Machine

/-- The seven register files (R41). -/
inductive FileName where
  | fp | fp2 | fp6 | fp12 | g1 | g2 | k
deriving DecidableEq, Repr

/-- The destination registers of a command (R122, R128). -/
def instrDests : Instr → List (FileName × Field6)
  | .fpAdd rd _ _ => [(.fp, rd)]
  | .fpSub rd _ _ => [(.fp, rd)]
  | .fpNeg rd _ => [(.fp, rd)]
  | .fpMul rd _ _ => [(.fp, rd)]
  | .fpSqr rd _ => [(.fp, rd)]
  | .fpInv rd _ => [(.fp, rd)]
  | .fpZero rd => [(.fp, rd)]
  | .fpOne rd => [(.fp, rd)]
  | .fpIszero _ => []
  | .fpIsone _ => []
  | .fpEq _ _ => []
  | .fpMov rd _ => [(.fp, rd)]
  | .fpEnc _ => []
  | .fpDec rd => [(.fp, rd)]
  | .fp2Add rd _ _ => [(.fp2, rd)]
  | .fp2Sub rd _ _ => [(.fp2, rd)]
  | .fp2Neg rd _ => [(.fp2, rd)]
  | .fp2Mul rd _ _ => [(.fp2, rd)]
  | .fp2Sqr rd _ => [(.fp2, rd)]
  | .fp2Inv rd _ => [(.fp2, rd)]
  | .fp2Zero rd => [(.fp2, rd)]
  | .fp2One rd => [(.fp2, rd)]
  | .fp2Iszero _ => []
  | .fp2Isone _ => []
  | .fp2Eq _ _ => []
  | .fp2Mov rd _ => [(.fp2, rd)]
  | .fp2Enc _ => []
  | .fp2Dec rd => [(.fp2, rd)]
  | .fp2Mulxi rd _ => [(.fp2, rd)]
  | .fp6Add rd _ _ => [(.fp6, rd)]
  | .fp6Sub rd _ _ => [(.fp6, rd)]
  | .fp6Neg rd _ => [(.fp6, rd)]
  | .fp6Mul rd _ _ => [(.fp6, rd)]
  | .fp6Sqr rd _ => [(.fp6, rd)]
  | .fp6Inv rd _ => [(.fp6, rd)]
  | .fp6Zero rd => [(.fp6, rd)]
  | .fp6One rd => [(.fp6, rd)]
  | .fp6Iszero _ => []
  | .fp6Isone _ => []
  | .fp6Eq _ _ => []
  | .fp6Mov rd _ => [(.fp6, rd)]
  | .fp6Frob rd _ => [(.fp6, rd)]
  | .fp6Frobp2 rd _ => [(.fp6, rd)]
  | .fp6Frobp4 rd _ => [(.fp6, rd)]
  | .fp6Multau rd _ => [(.fp6, rd)]
  | .fp12Add rd _ _ => [(.fp12, rd)]
  | .fp12Sub rd _ _ => [(.fp12, rd)]
  | .fp12Neg rd _ => [(.fp12, rd)]
  | .fp12Mul rd _ _ => [(.fp12, rd)]
  | .fp12Sqr rd _ => [(.fp12, rd)]
  | .fp12Inv rd _ => [(.fp12, rd)]
  | .fp12Zero rd => [(.fp12, rd)]
  | .fp12One rd => [(.fp12, rd)]
  | .fp12Iszero _ => []
  | .fp12Isone _ => []
  | .fp12Eq _ _ => []
  | .fp12Mov rd _ => [(.fp12, rd)]
  | .fp12Enc _ => []
  | .fp12Dec rd => [(.fp12, rd)]
  | .fp12Frob rd _ => [(.fp12, rd)]
  | .fp12Frobp2 rd _ => [(.fp12, rd)]
  | .fp12Frobp4 rd _ => [(.fp12, rd)]
  | .fp12Conj rd _ => [(.fp12, rd)]
  | .fp12Exp rd _ _ => [(.fp12, rd)]
  | .gtBaseexp rd _ => [(.fp12, rd)]
  | .g1Add rd _ _ => [(.g1, rd)]
  | .g1Dbl rd _ => [(.g1, rd)]
  | .g1Neg rd _ => [(.g1, rd)]
  | .g1Mul rd _ _ => [(.g1, rd)]
  | .g1Basemul rd _ => [(.g1, rd)]
  | .g1Aff rd _ => [(.g1, rd)]
  | .g1Oncurve _ => []
  | .g1Inf rd => [(.g1, rd)]
  | .g1Mov rd _ => [(.g1, rd)]
  | .g1Marshal _ => []
  | .g1Unmarshal rd => [(.g1, rd)]
  | .g1Random rd kd => [(.g1, rd), (.k, kd)]
  | .g2Add rd _ _ => [(.g2, rd)]
  | .g2Dbl rd _ => [(.g2, rd)]
  | .g2Neg rd _ => [(.g2, rd)]
  | .g2Mul rd _ _ => [(.g2, rd)]
  | .g2Basemul rd _ => [(.g2, rd)]
  | .g2Aff rd _ => [(.g2, rd)]
  | .g2Oncurve _ => []
  | .g2Inf rd => [(.g2, rd)]
  | .g2Mov rd _ => [(.g2, rd)]
  | .g2Marshal _ => []
  | .g2Unmarshal rd => [(.g2, rd)]
  | .g2Random rd kd => [(.g2, rd), (.k, kd)]
  | .miller rd _ _ => [(.fp12, rd)]
  | .finalexp rd _ => [(.fp12, rd)]
  | .pair rd _ _ => [(.fp12, rd)]
  | .pairchk _ _ => []
  | .fp2Pack rd _ _ => [(.fp2, rd)]
  | .fp2Get rd _ _ => [(.fp, rd)]
  | .fp6Pack rd _ _ _ => [(.fp6, rd)]
  | .fp6Get rd _ _ => [(.fp2, rd)]
  | .fp12Pack rd _ _ => [(.fp12, rd)]
  | .fp12Get rd _ _ => [(.fp6, rd)]
  | .kLd kd => [(.k, kd)]
  | .kSt _ => []
  | .kLdi kd _ => [(.k, kd)]
  | .kMov kd _ => [(.k, kd)]

/-- The source registers of a command (R122, R128). PAIRCHK reads the lists of R408 in their place. -/
def instrSources : Instr → List (FileName × Field6)
  | .fpAdd _ ra rb => [(.fp, ra), (.fp, rb)]
  | .fpSub _ ra rb => [(.fp, ra), (.fp, rb)]
  | .fpNeg _ ra => [(.fp, ra)]
  | .fpMul _ ra rb => [(.fp, ra), (.fp, rb)]
  | .fpSqr _ ra => [(.fp, ra)]
  | .fpInv _ ra => [(.fp, ra)]
  | .fpZero _ => []
  | .fpOne _ => []
  | .fpIszero ra => [(.fp, ra)]
  | .fpIsone ra => [(.fp, ra)]
  | .fpEq ra rb => [(.fp, ra), (.fp, rb)]
  | .fpMov _ ra => [(.fp, ra)]
  | .fpEnc ra => [(.fp, ra)]
  | .fpDec _ => []
  | .fp2Add _ ra rb => [(.fp2, ra), (.fp2, rb)]
  | .fp2Sub _ ra rb => [(.fp2, ra), (.fp2, rb)]
  | .fp2Neg _ ra => [(.fp2, ra)]
  | .fp2Mul _ ra rb => [(.fp2, ra), (.fp2, rb)]
  | .fp2Sqr _ ra => [(.fp2, ra)]
  | .fp2Inv _ ra => [(.fp2, ra)]
  | .fp2Zero _ => []
  | .fp2One _ => []
  | .fp2Iszero ra => [(.fp2, ra)]
  | .fp2Isone ra => [(.fp2, ra)]
  | .fp2Eq ra rb => [(.fp2, ra), (.fp2, rb)]
  | .fp2Mov _ ra => [(.fp2, ra)]
  | .fp2Enc ra => [(.fp2, ra)]
  | .fp2Dec _ => []
  | .fp2Mulxi _ ra => [(.fp2, ra)]
  | .fp6Add _ ra rb => [(.fp6, ra), (.fp6, rb)]
  | .fp6Sub _ ra rb => [(.fp6, ra), (.fp6, rb)]
  | .fp6Neg _ ra => [(.fp6, ra)]
  | .fp6Mul _ ra rb => [(.fp6, ra), (.fp6, rb)]
  | .fp6Sqr _ ra => [(.fp6, ra)]
  | .fp6Inv _ ra => [(.fp6, ra)]
  | .fp6Zero _ => []
  | .fp6One _ => []
  | .fp6Iszero ra => [(.fp6, ra)]
  | .fp6Isone ra => [(.fp6, ra)]
  | .fp6Eq ra rb => [(.fp6, ra), (.fp6, rb)]
  | .fp6Mov _ ra => [(.fp6, ra)]
  | .fp6Frob _ ra => [(.fp6, ra)]
  | .fp6Frobp2 _ ra => [(.fp6, ra)]
  | .fp6Frobp4 _ ra => [(.fp6, ra)]
  | .fp6Multau _ ra => [(.fp6, ra)]
  | .fp12Add _ ra rb => [(.fp12, ra), (.fp12, rb)]
  | .fp12Sub _ ra rb => [(.fp12, ra), (.fp12, rb)]
  | .fp12Neg _ ra => [(.fp12, ra)]
  | .fp12Mul _ ra rb => [(.fp12, ra), (.fp12, rb)]
  | .fp12Sqr _ ra => [(.fp12, ra)]
  | .fp12Inv _ ra => [(.fp12, ra)]
  | .fp12Zero _ => []
  | .fp12One _ => []
  | .fp12Iszero ra => [(.fp12, ra)]
  | .fp12Isone ra => [(.fp12, ra)]
  | .fp12Eq ra rb => [(.fp12, ra), (.fp12, rb)]
  | .fp12Mov _ ra => [(.fp12, ra)]
  | .fp12Enc ra => [(.fp12, ra)]
  | .fp12Dec _ => []
  | .fp12Frob _ ra => [(.fp12, ra)]
  | .fp12Frobp2 _ ra => [(.fp12, ra)]
  | .fp12Frobp4 _ ra => [(.fp12, ra)]
  | .fp12Conj _ ra => [(.fp12, ra)]
  | .fp12Exp _ ra kb => [(.fp12, ra), (.k, kb)]
  | .gtBaseexp _ kb => [(.k, kb)]
  | .g1Add _ ra rb => [(.g1, ra), (.g1, rb)]
  | .g1Dbl _ ra => [(.g1, ra)]
  | .g1Neg _ ra => [(.g1, ra)]
  | .g1Mul _ ra kb => [(.g1, ra), (.k, kb)]
  | .g1Basemul _ kb => [(.k, kb)]
  | .g1Aff _ ra => [(.g1, ra)]
  | .g1Oncurve ra => [(.g1, ra)]
  | .g1Inf _ => []
  | .g1Mov _ ra => [(.g1, ra)]
  | .g1Marshal ra => [(.g1, ra)]
  | .g1Unmarshal _ => []
  | .g1Random _ _ => []
  | .g2Add _ ra rb => [(.g2, ra), (.g2, rb)]
  | .g2Dbl _ ra => [(.g2, ra)]
  | .g2Neg _ ra => [(.g2, ra)]
  | .g2Mul _ ra kb => [(.g2, ra), (.k, kb)]
  | .g2Basemul _ kb => [(.k, kb)]
  | .g2Aff _ ra => [(.g2, ra)]
  | .g2Oncurve ra => [(.g2, ra)]
  | .g2Inf _ => []
  | .g2Mov _ ra => [(.g2, ra)]
  | .g2Marshal ra => [(.g2, ra)]
  | .g2Unmarshal _ => []
  | .g2Random _ _ => []
  | .miller _ ra rb => [(.g1, ra), (.g2, rb)]
  | .finalexp _ ra => [(.fp12, ra)]
  | .pair _ ra rb => [(.g1, ra), (.g2, rb)]
  | .pairchk _ _ => []
  | .fp2Pack _ ra rb => [(.fp, ra), (.fp, rb)]
  | .fp2Get _ ra _ => [(.fp2, ra)]
  | .fp6Pack _ ra rb rc => [(.fp2, ra), (.fp2, rb), (.fp2, rc)]
  | .fp6Get _ ra _ => [(.fp6, ra)]
  | .fp12Pack _ ra rb => [(.fp6, ra), (.fp6, rb)]
  | .fp12Get _ ra _ => [(.fp12, ra)]
  | .kLd _ => []
  | .kSt ka => [(.k, ka)]
  | .kLdi _ _ => []
  | .kMov _ ka => [(.k, ka)]

/-- How many bytes a command appends to the window (R92). -/
def instrAppended : Instr → Nat
  | .fpAdd _ _ _ => 0
  | .fpSub _ _ _ => 0
  | .fpNeg _ _ => 0
  | .fpMul _ _ _ => 0
  | .fpSqr _ _ => 0
  | .fpInv _ _ => 0
  | .fpZero _ => 0
  | .fpOne _ => 0
  | .fpIszero _ => 0
  | .fpIsone _ => 0
  | .fpEq _ _ => 0
  | .fpMov _ _ => 0
  | .fpEnc _ => 32
  | .fpDec _ => 0
  | .fp2Add _ _ _ => 0
  | .fp2Sub _ _ _ => 0
  | .fp2Neg _ _ => 0
  | .fp2Mul _ _ _ => 0
  | .fp2Sqr _ _ => 0
  | .fp2Inv _ _ => 0
  | .fp2Zero _ => 0
  | .fp2One _ => 0
  | .fp2Iszero _ => 0
  | .fp2Isone _ => 0
  | .fp2Eq _ _ => 0
  | .fp2Mov _ _ => 0
  | .fp2Enc _ => 64
  | .fp2Dec _ => 0
  | .fp2Mulxi _ _ => 0
  | .fp6Add _ _ _ => 0
  | .fp6Sub _ _ _ => 0
  | .fp6Neg _ _ => 0
  | .fp6Mul _ _ _ => 0
  | .fp6Sqr _ _ => 0
  | .fp6Inv _ _ => 0
  | .fp6Zero _ => 0
  | .fp6One _ => 0
  | .fp6Iszero _ => 0
  | .fp6Isone _ => 0
  | .fp6Eq _ _ => 0
  | .fp6Mov _ _ => 0
  | .fp6Frob _ _ => 0
  | .fp6Frobp2 _ _ => 0
  | .fp6Frobp4 _ _ => 0
  | .fp6Multau _ _ => 0
  | .fp12Add _ _ _ => 0
  | .fp12Sub _ _ _ => 0
  | .fp12Neg _ _ => 0
  | .fp12Mul _ _ _ => 0
  | .fp12Sqr _ _ => 0
  | .fp12Inv _ _ => 0
  | .fp12Zero _ => 0
  | .fp12One _ => 0
  | .fp12Iszero _ => 0
  | .fp12Isone _ => 0
  | .fp12Eq _ _ => 0
  | .fp12Mov _ _ => 0
  | .fp12Enc _ => 384
  | .fp12Dec _ => 0
  | .fp12Frob _ _ => 0
  | .fp12Frobp2 _ _ => 0
  | .fp12Frobp4 _ _ => 0
  | .fp12Conj _ _ => 0
  | .fp12Exp _ _ _ => 0
  | .gtBaseexp _ _ => 0
  | .g1Add _ _ _ => 0
  | .g1Dbl _ _ => 0
  | .g1Neg _ _ => 0
  | .g1Mul _ _ _ => 0
  | .g1Basemul _ _ => 0
  | .g1Aff _ _ => 0
  | .g1Oncurve _ => 0
  | .g1Inf _ => 0
  | .g1Mov _ _ => 0
  | .g1Marshal _ => 64
  | .g1Unmarshal _ => 0
  | .g1Random _ _ => 0
  | .g2Add _ _ _ => 0
  | .g2Dbl _ _ => 0
  | .g2Neg _ _ => 0
  | .g2Mul _ _ _ => 0
  | .g2Basemul _ _ => 0
  | .g2Aff _ _ => 0
  | .g2Oncurve _ => 0
  | .g2Inf _ => 0
  | .g2Mov _ _ => 0
  | .g2Marshal _ => 128
  | .g2Unmarshal _ => 0
  | .g2Random _ _ => 0
  | .miller _ _ _ => 0
  | .finalexp _ _ => 0
  | .pair _ _ _ => 0
  | .pairchk _ _ => 0
  | .fp2Pack _ _ _ => 0
  | .fp2Get _ _ _ => 0
  | .fp6Pack _ _ _ _ => 0
  | .fp6Get _ _ _ => 0
  | .fp12Pack _ _ _ => 0
  | .fp12Get _ _ _ => 0
  | .kLd _ => 0
  | .kSt _ => 32
  | .kLdi _ _ => 0
  | .kMov _ _ => 0

/-- How many bytes a decoder needs in the window (R92, R465); 0 for K.LD, which takes what is there, and for
the commands that read no byte. -/
def instrNeeded : Instr → Nat
  | .fpAdd _ _ _ => 0
  | .fpSub _ _ _ => 0
  | .fpNeg _ _ => 0
  | .fpMul _ _ _ => 0
  | .fpSqr _ _ => 0
  | .fpInv _ _ => 0
  | .fpZero _ => 0
  | .fpOne _ => 0
  | .fpIszero _ => 0
  | .fpIsone _ => 0
  | .fpEq _ _ => 0
  | .fpMov _ _ => 0
  | .fpEnc _ => 0
  | .fpDec _ => 32
  | .fp2Add _ _ _ => 0
  | .fp2Sub _ _ _ => 0
  | .fp2Neg _ _ => 0
  | .fp2Mul _ _ _ => 0
  | .fp2Sqr _ _ => 0
  | .fp2Inv _ _ => 0
  | .fp2Zero _ => 0
  | .fp2One _ => 0
  | .fp2Iszero _ => 0
  | .fp2Isone _ => 0
  | .fp2Eq _ _ => 0
  | .fp2Mov _ _ => 0
  | .fp2Enc _ => 0
  | .fp2Dec _ => 64
  | .fp2Mulxi _ _ => 0
  | .fp6Add _ _ _ => 0
  | .fp6Sub _ _ _ => 0
  | .fp6Neg _ _ => 0
  | .fp6Mul _ _ _ => 0
  | .fp6Sqr _ _ => 0
  | .fp6Inv _ _ => 0
  | .fp6Zero _ => 0
  | .fp6One _ => 0
  | .fp6Iszero _ => 0
  | .fp6Isone _ => 0
  | .fp6Eq _ _ => 0
  | .fp6Mov _ _ => 0
  | .fp6Frob _ _ => 0
  | .fp6Frobp2 _ _ => 0
  | .fp6Frobp4 _ _ => 0
  | .fp6Multau _ _ => 0
  | .fp12Add _ _ _ => 0
  | .fp12Sub _ _ _ => 0
  | .fp12Neg _ _ => 0
  | .fp12Mul _ _ _ => 0
  | .fp12Sqr _ _ => 0
  | .fp12Inv _ _ => 0
  | .fp12Zero _ => 0
  | .fp12One _ => 0
  | .fp12Iszero _ => 0
  | .fp12Isone _ => 0
  | .fp12Eq _ _ => 0
  | .fp12Mov _ _ => 0
  | .fp12Enc _ => 0
  | .fp12Dec _ => 384
  | .fp12Frob _ _ => 0
  | .fp12Frobp2 _ _ => 0
  | .fp12Frobp4 _ _ => 0
  | .fp12Conj _ _ => 0
  | .fp12Exp _ _ _ => 0
  | .gtBaseexp _ _ => 0
  | .g1Add _ _ _ => 0
  | .g1Dbl _ _ => 0
  | .g1Neg _ _ => 0
  | .g1Mul _ _ _ => 0
  | .g1Basemul _ _ => 0
  | .g1Aff _ _ => 0
  | .g1Oncurve _ => 0
  | .g1Inf _ => 0
  | .g1Mov _ _ => 0
  | .g1Marshal _ => 0
  | .g1Unmarshal _ => 64
  | .g1Random _ _ => 0
  | .g2Add _ _ _ => 0
  | .g2Dbl _ _ => 0
  | .g2Neg _ _ => 0
  | .g2Mul _ _ _ => 0
  | .g2Basemul _ _ => 0
  | .g2Aff _ _ => 0
  | .g2Oncurve _ => 0
  | .g2Inf _ => 0
  | .g2Mov _ _ => 0
  | .g2Marshal _ => 0
  | .g2Unmarshal _ => 128
  | .g2Random _ _ => 0
  | .miller _ _ _ => 0
  | .finalexp _ _ => 0
  | .pair _ _ _ => 0
  | .pairchk _ _ => 0
  | .fp2Pack _ _ _ => 0
  | .fp2Get _ _ _ => 0
  | .fp6Pack _ _ _ _ => 0
  | .fp6Get _ _ _ => 0
  | .fp12Pack _ _ _ => 0
  | .fp12Get _ _ _ => 0
  | .kLd _ => 0
  | .kSt _ => 0
  | .kLdi _ _ => 0
  | .kMov _ _ => 0

/-- The commands that write RES (R45). -/
def instrWritesRes : Instr → Bool
  | .fpAdd _ _ _ => false
  | .fpSub _ _ _ => false
  | .fpNeg _ _ => false
  | .fpMul _ _ _ => false
  | .fpSqr _ _ => false
  | .fpInv _ _ => false
  | .fpZero _ => false
  | .fpOne _ => false
  | .fpIszero _ => true
  | .fpIsone _ => true
  | .fpEq _ _ => true
  | .fpMov _ _ => false
  | .fpEnc _ => false
  | .fpDec _ => false
  | .fp2Add _ _ _ => false
  | .fp2Sub _ _ _ => false
  | .fp2Neg _ _ => false
  | .fp2Mul _ _ _ => false
  | .fp2Sqr _ _ => false
  | .fp2Inv _ _ => false
  | .fp2Zero _ => false
  | .fp2One _ => false
  | .fp2Iszero _ => true
  | .fp2Isone _ => true
  | .fp2Eq _ _ => true
  | .fp2Mov _ _ => false
  | .fp2Enc _ => false
  | .fp2Dec _ => false
  | .fp2Mulxi _ _ => false
  | .fp6Add _ _ _ => false
  | .fp6Sub _ _ _ => false
  | .fp6Neg _ _ => false
  | .fp6Mul _ _ _ => false
  | .fp6Sqr _ _ => false
  | .fp6Inv _ _ => false
  | .fp6Zero _ => false
  | .fp6One _ => false
  | .fp6Iszero _ => true
  | .fp6Isone _ => true
  | .fp6Eq _ _ => true
  | .fp6Mov _ _ => false
  | .fp6Frob _ _ => false
  | .fp6Frobp2 _ _ => false
  | .fp6Frobp4 _ _ => false
  | .fp6Multau _ _ => false
  | .fp12Add _ _ _ => false
  | .fp12Sub _ _ _ => false
  | .fp12Neg _ _ => false
  | .fp12Mul _ _ _ => false
  | .fp12Sqr _ _ => false
  | .fp12Inv _ _ => false
  | .fp12Zero _ => false
  | .fp12One _ => false
  | .fp12Iszero _ => true
  | .fp12Isone _ => true
  | .fp12Eq _ _ => true
  | .fp12Mov _ _ => false
  | .fp12Enc _ => false
  | .fp12Dec _ => false
  | .fp12Frob _ _ => false
  | .fp12Frobp2 _ _ => false
  | .fp12Frobp4 _ _ => false
  | .fp12Conj _ _ => false
  | .fp12Exp _ _ _ => false
  | .gtBaseexp _ _ => false
  | .g1Add _ _ _ => false
  | .g1Dbl _ _ => false
  | .g1Neg _ _ => false
  | .g1Mul _ _ _ => false
  | .g1Basemul _ _ => false
  | .g1Aff _ _ => false
  | .g1Oncurve _ => true
  | .g1Inf _ => false
  | .g1Mov _ _ => false
  | .g1Marshal _ => false
  | .g1Unmarshal _ => false
  | .g1Random _ _ => false
  | .g2Add _ _ _ => false
  | .g2Dbl _ _ => false
  | .g2Neg _ _ => false
  | .g2Mul _ _ _ => false
  | .g2Basemul _ _ => false
  | .g2Aff _ _ => false
  | .g2Oncurve _ => true
  | .g2Inf _ => false
  | .g2Mov _ _ => false
  | .g2Marshal _ => false
  | .g2Unmarshal _ => false
  | .g2Random _ _ => false
  | .miller _ _ _ => false
  | .finalexp _ _ => false
  | .pair _ _ _ => false
  | .pairchk _ _ => true
  | .fp2Pack _ _ _ => false
  | .fp2Get _ _ _ => false
  | .fp6Pack _ _ _ _ => false
  | .fp6Get _ _ _ => false
  | .fp12Pack _ _ _ => false
  | .fp12Get _ _ _ => false
  | .kLd _ => false
  | .kSt _ => false
  | .kLdi _ _ => false
  | .kMov _ _ => false

/-- The validity tag of a register (R42). -/
def registerValid (s : State) : FileName × Field6 → Bool
  | (.fp, f) => (readReg s.fp f).isSome
  | (.fp2, f) => (readReg s.fp2 f).isSome
  | (.fp6, f) => (readReg s.fp6 f).isSome
  | (.fp12, f) => (readReg s.fp12 f).isSome
  | (.g1, f) => (readReg s.g1 f).isSome
  | (.g2, f) => (readReg s.g2 f).isSome
  | (.k, f) => (readReg s.k f).isSome

/-- A register has the same tag and the same content in both states. -/
def sameRegister (s t : State) : FileName × Field6 → Prop
  | (.fp, f) => t.fp[f.toNat]? = s.fp[f.toNat]?
  | (.fp2, f) => t.fp2[f.toNat]? = s.fp2[f.toNat]?
  | (.fp6, f) => t.fp6[f.toNat]? = s.fp6[f.toNat]?
  | (.fp12, f) => t.fp12[f.toNat]? = s.fp12[f.toNat]?
  | (.g1, f) => t.g1[f.toNat]? = s.g1[f.toNat]?
  | (.g2, f) => t.g2[f.toNat]? = s.g2[f.toNat]?
  | (.k, f) => t.k[f.toNat]? = s.k[f.toNat]?

/-- A command is ready to run: the engine is not halted and the command is legal (R470 steps 1, 2). -/
structure Ready (i : Instr) (s : State) : Prop where
  running : halted s = false
  legal : i.wellFormed = true

/-- What every step keeps (R43, R49, R50, R80, R163): memory in its canonical form and inside DBUF, every
valid register canonical, legal codes in FAULT and ERR. -/
structure Inv (s : State) : Prop where
  memory_wf : Memory.wf s.dbuf = true
  memory_inside : ∀ c ∈ s.dbuf, c.1 < Config.bufBytes
  fp_canonical : ∀ f a, readReg s.fp f = some a → Fp.Canonical Config.params a
  fp2_canonical : ∀ f a, readReg s.fp2 f = some a → Fp2.Canonical Config.params a
  fp6_canonical : ∀ f a, readReg s.fp6 f = some a → Fp6.Canonical Config.params a
  fp12_canonical : ∀ f a, readReg s.fp12 f = some a → Fp12.Canonical Config.params a
  g1_canonical : ∀ f a, readReg s.g1 f = some a → Jac.All (Fp.Canonical Config.params) a
  g2_canonical : ∀ f a, readReg s.g2 f = some a → Jac.All (Fp2.Canonical Config.params) a
  fault_code : s.fault.toNat ≤ 6
  err_code : s.err.toNat ≤ 3

/-- The G1 part of R61 (d): the affine image of every valid `g1` register is on the curve, or INF. -/
def G1OnCurve (s : State) : Prop :=
  ∀ f j, readReg s.g1 f = some j → onCurve1 Config.params (affineOf (fpOps Config.params) j) = true

/-- An affine point of the twist satisfies y² = x³ + 3/ξ, or is INF; its order is not looked at (R340). -/
def onTwist : Aff Fp2 → Bool
  | .inf => true
  | .pt x y => onCurveEq (fp2Ops Config.params) Config.params.b2 x y

/-- The equation in the G2 part of R61 (d). -/
def G2OnTwist (s : State) : Prop :=
  ∀ f j, readReg s.g2 f = some j → onTwist (affineOf (fp2Ops Config.params) j) = true

/-- The G2 part of R61 (d): the affine image of every valid `g2` register satisfies the equation and has
order dividing n, or is INF. -/
def G2InSubgroup (s : State) : Prop :=
  ∀ f j, readReg s.g2 f = some j → onCurve2 Config.params (affineOf (fp2Ops Config.params) j) = true

/-- Both coordinates of an affine point are good. -/
def Aff.All {F : Type} (good : F → Prop) : Aff F → Prop
  | .inf => True
  | .pt x y => good x ∧ good y

/-- `r` is P ⊕ Q by the table of R311, its slope λ given by the equation that the division solves. Two points
with one abscissa and ordinates that are neither equal nor opposite are on no common curve; the table does
not name them. -/
def IsSum {F : Type} (K : FieldOps F) : Aff F → Aff F → Aff F → Prop
  | .inf, q, r => r = q
  | .pt x y, .inf, r => r = .pt x y
  | .pt x1 y1, .pt x2 y2, r =>
    let through := fun lam : F => ∃ x3,
      x3 = K.sub (K.sub (K.mul lam lam) x1) x2 ∧ r = .pt x3 (K.sub (K.mul lam (K.sub x1 x3)) y1)
    (x1 = x2 → y1 = K.neg y2 → r = .inf) ∧
    (x1 = x2 → y1 = y2 → y1 ≠ K.zero → ∃ lam,
      K.mul lam (K.add y1 y1) = K.add (K.add (K.mul x1 x1) (K.mul x1 x1)) (K.mul x1 x1) ∧
      through lam) ∧
    (x1 ≠ x2 → ∃ lam, K.mul lam (K.sub x2 x1) = K.sub y2 y1 ∧ through lam)

/-- The laws of R325, R371 and R382 for the points `on`: they form an abelian group, and [k]P is P added to
itself k times. -/
structure GroupLaws {F : Type} [DecidableEq F] (K : FieldOps F) (on : Aff F → Prop) : Prop where
  add_mem : ∀ p q, on p → on q → on (Aff.add K p q)
  neg_mem : ∀ p, on p → on (Aff.neg K p)
  add_comm : ∀ p q, on p → on q → Aff.add K p q = Aff.add K q p
  add_assoc : ∀ p q r, on p → on q → on r →
    Aff.add K (Aff.add K p q) r = Aff.add K p (Aff.add K q r)
  add_inf : ∀ p, on p → Aff.add K p .inf = p
  add_neg : ∀ p, on p → Aff.add K p (Aff.neg K p) = .inf
  neg_neg : ∀ p, on p → Aff.neg K (Aff.neg K p) = p
  smul_zero : ∀ p, on p → Aff.smul K 0 p = .inf
  smul_succ : ∀ p a, on p → Aff.smul K (a + 1) p = Aff.add K (Aff.smul K a p) p
  smul_inf : ∀ a, Aff.smul K a .inf = .inf
  smul_sum : ∀ p a b, on p →
    Aff.smul K (a + b) p = Aff.add K (Aff.smul K a p) (Aff.smul K b p)
  smul_smul : ∀ p a b, on p → Aff.smul K b (Aff.smul K a p) = Aff.smul K (a * b) p

/-- Two states that differ only in the representatives of point registers with equal affine images (R322). -/
structure SameImages (s t : State) : Prop where
  rest : t = { s with g1 := t.g1, g2 := t.g2 }
  g1_images : ∀ f, (readReg t.g1 f).map (affineOf (fpOps Config.params)) =
    (readReg s.g1 f).map (affineOf (fpOps Config.params))
  g2_images : ∀ f, (readReg t.g2 f).map (affineOf (fp2Ops Config.params)) =
    (readReg s.g2 f).map (affineOf (fp2Ops Config.params))

/-- A state of a safe run: the invariant holds and no fault has been taken (R463). -/
structure Safe (s : State) : Prop where
  inv : Inv s
  running : halted s = false

end Sys2Proof.Machine
end

