-- ==== Sys2Proof/Certificates/Slice0/Obligations.lean ====
section
/-!
DEFINITION. The statements for the provers. `Ready i s` is: the engine is not halted and the command is
legal. Each docstring names the rules of spec/ that the statement formalises.
-/

section

open Sys2Proof Sys2Proof.Machine

/-! ### The command word -/

/-- Decoding an encoded legal command gives it back, with every operand at every legal value
(R121 to R128, R143). -/
def Obligations.DecodeOfEncode : Prop :=
  ∀ i : Instr, i.wellFormed = true →
    decode (encode i) = .ok i ∧ decodeTableWord 32 (encode i).toNat = some i

/-- A word that decodes is the encoding of the command it decodes to, and that command is legal: no bit is
dropped, and no two words decode to one command (R124, R128). -/
def Obligations.EncodeOfDecode : Prop :=
  ∀ (w : Word32) (i : Instr), decode w = .ok i → i.wellFormed = true ∧ encode i = w

/-- Words of 95_test_vectors rows E1, E7 to E9, E13, E14, E18, E20, E22, E23 and E28, one or more from every
family, decode to the commands they stand for. -/
def Obligations.HandWrittenWords : Prop :=
  decode 0x10080040 = .ok (.fpAdd 2 0 1) ∧ decode 0x2E041000 = .ok (.fp2Mulxi 1 1) ∧
  decode 0x3E1C8000 = .ok (.fp6Frobp4 7 8) ∧ decode 0x54081080 = .ok (.fp12Exp 2 1 2) ∧
  decode 0x92000042 = .ok (.fp6Pack 0 0 1 2) ∧ decode 0x93101080 = .ok (.fp6Get 4 1 2) ∧
  decode 0x630400C0 = .ok (.g1Mul 1 0 3) ∧ decode 0x7A240000 = .ok (.g2Unmarshal 9) ∧
  decode 0x80181040 = .ok (.miller 6 1 1) ∧ decode 0x8300E0C0 = .ok (.pairchk 14 3) ∧
  decode 0xA2041000 = .ok (.kLdi 1 4096)

/-- The illegal words. A word is refused for its opcode exactly when the opcode is one of R137 (a); and a word
that is the encoding of no legal command faults with IllegalCommand and has no other effect (R137, R461). -/
def Obligations.IllegalWords : Prop :=
  (∀ w : Word32,
    (let op := (w >>> 24).toNat
     op ≤ 0x0F ∨ op = 0x1E ∨ op = 0x1F ∨ op = 0x2F ∨ op = 0x4E ∨ op = 0x4F ∨
      (0x56 ≤ op ∧ op ≤ 0x5F) ∨ (0x6C ≤ op ∧ op ≤ 0x6F) ∨ (0x7C ≤ op ∧ op ≤ 0x7F) ∨
      (0x84 ≤ op ∧ op ≤ 0x8F) ∨ (0x96 ≤ op ∧ op ≤ 0x9F) ∨ 0xA4 ≤ op) ↔
    decode w = .error .reservedOp) ∧
  (∀ (w : Word32) (s : State), halted s = false →
    (∀ i : Instr, i.wellFormed = true → encode i ≠ w) →
    command w s = .next { s with fault := 1, finfo := w })

/-! ### Steps and the host -/

/-- When the host's next access writes a word that decodes to a command, the step is that command's exec in
the state without that access; withFetchWord places such an access (R47; log 4). -/
def Obligations.StepRunsCommand : Prop :=
  (∀ (s : State) (w : Word32) (rest : List HostAction) (i : Instr),
    s.host = .writeReg 0 w :: rest → halted s = false → decode w = .ok i →
    i.wellFormed = true ∧ step s = exec i { s with host := rest }) ∧
  (∀ (s : State) (i : Instr), Ready i s →
    step (s.withFetchWord 32 (encode i).toNat) = exec i s)

/-- The control registers as the host sees them: a write to 5 to 8 sets BPTR, BLEN, LENA or LENB and nothing
else, a write to 1 to 4 or above 8 changes nothing, a read changes hostData alone (log 6), and each number
reads its register, CMD and the numbers above 8 reading 0 (R46). -/
def Obligations.ControlRegisterAccess : Prop :=
  ∀ (s : State) (v : Word32),
    (∀ n, 9 ≤ n → access (.writeReg n v) s = .next s ∧ readControl s n = 0) ∧
    (∀ n, 1 ≤ n → n ≤ 4 → access (.writeReg n v) s = .next s) ∧
    access (.writeReg 5 v) s = .next { s with bptr := v } ∧
    access (.writeReg 6 v) s = .next { s with blen := v } ∧
    access (.writeReg 7 v) s = .next { s with lena := v } ∧
    access (.writeReg 8 v) s = .next { s with lenb := v } ∧
    (∀ n, 5 ≤ n → n ≤ 8 → ∃ t, access (.writeReg n v) s = .next t ∧ readControl t n = v ∧
      (∀ m, m ≠ n → readControl t m = readControl s m)) ∧
    (∀ n, access (.readReg n) s = .next { s with hostData := readControl s n }) ∧
    readControl s 0 = 0 ∧ readControl s 1 = statusWord s ∧ readControl s 2 = s.err ∧
    readControl s 3 = s.fault ∧ readControl s 4 = s.finfo ∧ readControl s 5 = s.bptr ∧
    readControl s 6 = s.blen ∧ readControl s 7 = s.lena ∧ readControl s 8 = s.lenb

/-- The host's bytes of DBUF: a write makes the byte valid and leaves every other byte alone, a read of a
valid byte returns it, and an index that does not exist stops the model (R67; log 7). -/
def Obligations.BufferAccess : Prop :=
  ∀ (s : State) (j : Nat) (b : Byte),
    (j < Config.bufBytes → ∃ t, access (.writeByte j b) s = .next t ∧ t = { s with dbuf := t.dbuf } ∧
      memRead t.dbuf j = some b ∧ ∀ a, a ≠ j → memRead t.dbuf a = memRead s.dbuf a) ∧
    (j < Config.bufBytes → memRead s.dbuf j = some b →
      access (.readByte j) s = .next { s with hostData := b.setWidth 32 }) ∧
    (j < Config.bufBytes → memRead s.dbuf j = none → ∃ v : Byte,
      access (.readByte j) s = .next { s with hostData := v.setWidth 32, draws := s.draws + 1 }) ∧
    (Config.bufBytes ≤ j → access (.writeByte j b) s = .fault (.hostBufferIndex j) ∧
      access (.readByte j) s = .fault (.hostBufferIndex j))

/-- STATUS (R48). -/
def Obligations.StatusView : Prop :=
  (∀ s : State, (statusWord s).getLsbD 0 = s.res ∧
    ((statusWord s).getLsbD 1 = true ↔ faultCode s ≠ 0) ∧
    (∀ j, 2 ≤ j → (statusWord s).getLsbD j = false) ∧
    readControl s 1 = statusWord s ∧
    ∀ v, access (.writeReg 1 v) s = .next s) ∧
  statusWord State.reset = 0

/-- FAULT (R50): the codes, when CODE is written, and that nothing but reset clears it. The premise is part
of Inv. -/
def Obligations.FaultRegister : Prop :=
  (faultNumber .illegalCommand = 1 ∧ faultNumber .uninitOperand = 2 ∧ faultNumber .invertZero = 3 ∧
    faultNumber .indexRange = 4 ∧ faultNumber .bufferBounds = 5 ∧ faultNumber .scalarRange = 6) ∧
  State.reset.fault = 0 ∧
  (∀ (w : Word32) (s t : State), command w s = .next t → t.fault ≠ s.fault →
    faultCode s = 0 ∧ ∃ c, t.fault = faultNumber c) ∧
  (∀ (a : HostAction) (s t : State), a ≠ .reset → access a s = .next t →
    faultCode s ≠ 0 → t.fault = s.fault) ∧
  (∀ (a : HostAction) (s t : State), (∀ w, a ≠ .writeReg 0 w) → a ≠ .reset →
    access a s = .next t → t.fault = s.fault) ∧
  (∀ (s t : State), s.fault.toNat ≤ 6 → step s = .next t →
    t.fault.toNat ≤ 6 ∧ ∀ j, 4 ≤ j → t.fault.getLsbD j = false)

/-- FINFO (R51). -/
def Obligations.FinfoRegister : Prop :=
  State.reset.finfo = 0 ∧
  (∀ (w : Word32) (s t : State), command w s = .next t →
    (t.fault = s.fault ∧ t.finfo = s.finfo) ∨ (faultCode s = 0 ∧ faultCode t ≠ 0 ∧ t.finfo = w)) ∧
  (∀ (a : HostAction) (s t : State), (∀ w, a ≠ .writeReg 0 w) → a ≠ .reset →
    access a s = .next t → t.finfo = s.finfo)

/-- LENA and LENB keep the host's last value; PAIRCHK does not change them; only reset clears them (R519). -/
def Obligations.ListLengthsPersist : Prop :=
  (∀ (i : Instr) (s t : State), exec i s = .next t → t.lena = s.lena ∧ t.lenb = s.lenb) ∧
  (∀ (s : State) (v : Word32), access (.writeReg 7 v) s = .next { s with lena := v } ∧
    access (.writeReg 8 v) s = .next { s with lenb := v }) ∧
  (∀ (a : HostAction) (s t : State), a ≠ .reset → access a s = .next t →
    ((∀ v, a ≠ .writeReg 7 v) → t.lena = s.lena) ∧ ((∀ v, a ≠ .writeReg 8 v) → t.lenb = s.lenb)) ∧
  (∀ s t : State, access .reset s = .next t → t.lena = 0 ∧ t.lenb = 0)

/-- The state after reset, and after the reset event in any state (R68). -/
def Obligations.ResetState : Prop :=
  let afterReset := fun t : State =>
    (∀ r, registerValid t r = false) ∧ (∀ j, memRead t.dbuf j = none) ∧
    t.res = false ∧ t.err = 0 ∧ t.fault = 0 ∧ t.finfo = 0 ∧
    t.bptr = 0 ∧ t.blen = 0 ∧ t.lena = 0 ∧ t.lenb = 0 ∧ statusWord t = 0
  afterReset State.reset ∧ ∀ s, ∃ t, access .reset s = .next t ∧ afterReset t

/-- Only reset leaves the halt, and it also invalidates every register and every byte; while halted no
command runs, so no second fault occurs: a write to CMD changes nothing (R464). -/
def Obligations.OnlyResetLeavesHalt : Prop :=
  (∀ (s : State) (w : Word32), halted s = true → command w s = .next s) ∧
  (∀ (s : State) (w : Word32) (rest : List HostAction), halted s = true →
    s.host = .writeReg 0 w :: rest → step s = .next { s with host := rest }) ∧
  (∀ (s t : State), halted s = true → step s = .next t →
    (t.fault = s.fault ∧ t.finfo = s.finfo) ∨
    (∃ rest, s.host = .reset :: rest ∧ halted t = false ∧
      (∀ r, registerValid t r = false) ∧ ∀ j, memRead t.dbuf j = none))

/-- Fault entry (R463): FAULT and FINFO are written and nothing else; HALT reads 1; from then on CMD is
ignored, no command has an effect (exec on a halted engine: log 13; the word in FINFO: log 12), and the
host's other accesses still work and do not restart the engine. -/
def Obligations.FaultEntry : Prop :=
  (∀ (c : FaultKind) (w : Word32) (s : State),
    takeFault c w s = { s with fault := faultNumber c, finfo := w } ∧
    (statusWord (takeFault c w s)).getLsbD 1 = true ∧
    ∀ v, command v (takeFault c w s) = .next (takeFault c w s)) ∧
  (∀ s : State, halted s = true → (∀ w, command w s = .next s) ∧ ∀ i, exec i s = .next s) ∧
  (∀ (a : HostAction) (s : State), halted s = true → (∀ w, a ≠ .writeReg 0 w) → a ≠ .reset →
    (∀ j b, a = .writeByte j b → j < Config.bufBytes) → (∀ j, a = .readByte j → j < Config.bufBytes) →
    ∃ t, access a s = .next t ∧ halted t = true) ∧
  (∀ (i : Instr) (s t : State), Ready i s → exec i s = .next t → halted t = true →
    ∃ c, t = { s with fault := faultNumber c, finfo := encode i })

/-- RES (R45): readable as STATUS[0], written by the predicate commands alone, unchanged by a command that
ends in an error or a fault, 0 after reset. -/
def Obligations.ResultFlag : Prop :=
  (∀ (i : Instr) (s t : State), exec i s = .next t → instrWritesRes i = false → t.res = s.res) ∧
  (∀ (i : Instr) (s t : State), exec i s = .next t → (t.err ≠ 0 ∨ halted t = true) → t.res = s.res) ∧
  (∀ s : State, (statusWord s).getLsbD 0 = s.res) ∧ State.reset.res = false

/-- BPTR and BLEN change only by Consume, of the bytes a decoder needs or of K.LD's whole window, and by
Append, and neither wraps around 32 bits (R21, R52, R53, R378). -/
def Obligations.WindowPointers : Prop :=
  ∀ (i : Instr) (s t : State), exec i s = .next t →
    (t.bptr = s.bptr ∧ t.blen = s.blen) ∨
    (∃ len, (len = instrNeeded i ∨ ∃ kd, i = .kLd kd ∧ len = s.blen.toNat) ∧
      len ≤ s.blen.toNat ∧ t.bptr.toNat = s.bptr.toNat + len ∧
      t.blen.toNat = s.blen.toNat - len) ∨
    (t.bptr = s.bptr ∧ t.blen.toNat = s.blen.toNat + instrAppended i)

/-! ### Results of the field commands -/

/-- FP.ADD, FP.SUB, FP.NEG, FP.MUL, FP.SQR and FP.INV on canonical words, as their pseudocode gives the new
word (R166 to R171). -/
def Obligations.FpResults : Prop :=
  ∀ (rd ra rb : Field6) (s : State) (a b : MontWord),
    halted s = false → rd.toNat < Config.nFp → ra.toNat < Config.nFp → rb.toNat < Config.nFp →
    readReg s.fp ra = some a → readReg s.fp rb = some b →
    a.toNat < Config.params.p → b.toNat < Config.params.p →
    let p := Config.params.p
    let put := fun v : Nat => { s with err := 0, fp := writeReg s.fp rd (BitVec.ofNat 256 v) }
    exec (.fpAdd rd ra rb) s =
      .next (put (if p ≤ a.toNat + b.toNat then a.toNat + b.toNat - p else a.toNat + b.toNat)) ∧
    exec (.fpSub rd ra rb) s =
      .next (put (if b.toNat ≤ a.toNat then a.toNat - b.toNat else a.toNat + p - b.toNat)) ∧
    exec (.fpNeg rd ra) s = .next (put (if a.toNat = 0 then 0 else p - a.toNat)) ∧
    exec (.fpMul rd ra rb) s = .next (put (a.toNat * b.toNat * Config.params.rInv % p)) ∧
    exec (.fpSqr rd ra) s = .next (put (a.toNat * a.toNat * Config.params.rInv % p)) ∧
    (a ≠ 0 → ∃ v, v < p ∧ exec (.fpInv rd ra) s = .next (put v) ∧
      v * a.toNat * Config.params.rInv % p = 2 ^ 256 % p)

/-- The commands that write a constant (R172, R173, R209, R210, R240, R241, R270, R271, R318, R348, R380). -/
def Obligations.ConstantResults : Prop :=
  ∀ (rd : Field6) (imm : BitVec 18) (s : State), halted s = false → rd.toNat < 16 →
    let one : MontWord := BitVec.ofNat 256 (2 ^ 256 % Config.params.p)
    let z2 : Fp2 := ⟨0, 0⟩
    let z6 : Fp6 := ⟨z2, z2, z2⟩
    exec (.fpZero rd) s = .next { s with err := 0, fp := writeReg s.fp rd 0 } ∧
    exec (.fpOne rd) s = .next { s with err := 0, fp := writeReg s.fp rd one } ∧
    exec (.fp2Zero rd) s = .next { s with err := 0, fp2 := writeReg s.fp2 rd z2 } ∧
    exec (.fp2One rd) s = .next { s with err := 0, fp2 := writeReg s.fp2 rd ⟨0, one⟩ } ∧
    exec (.fp6Zero rd) s = .next { s with err := 0, fp6 := writeReg s.fp6 rd z6 } ∧
    exec (.fp6One rd) s = .next { s with err := 0, fp6 := writeReg s.fp6 rd ⟨z2, z2, ⟨0, one⟩⟩ } ∧
    exec (.fp12Zero rd) s = .next { s with err := 0, fp12 := writeReg s.fp12 rd ⟨z6, z6⟩ } ∧
    exec (.fp12One rd) s =
      .next { s with err := 0, fp12 := writeReg s.fp12 rd ⟨z6, ⟨z2, z2, ⟨0, one⟩⟩⟩ } ∧
    exec (.g1Inf rd) s = .next { s with err := 0, g1 := writeReg s.g1 rd ⟨0, one, 0, 0⟩ } ∧
    exec (.g2Inf rd) s = .next { s with err := 0, g2 := writeReg s.g2 rd ⟨z2, ⟨0, one⟩, z2, z2⟩ } ∧
    exec (.kLdi rd imm) s = .next { s with err := 0, k := writeReg s.k rd imm.toNat }

/-- The field predicates write RES and nothing else but ERR (R174 to R176, R211 to R213, R242 to R244,
R272 to R274). -/
def Obligations.FieldTestResults : Prop :=
  ∀ (ra rb : Field6) (s : State), halted s = false → ra.toNat < 16 → rb.toNat < 16 →
    let one : MontWord := BitVec.ofNat 256 (2 ^ 256 % Config.params.p)
    let z2 : Fp2 := ⟨0, 0⟩
    let z6 : Fp6 := ⟨z2, z2, z2⟩
    let o6 : Fp6 := ⟨z2, z2, ⟨0, one⟩⟩
    let put := fun r : Bool => { s with err := 0, res := r }
    (∀ a b, readReg s.fp ra = some a → readReg s.fp rb = some b →
      exec (.fpIszero ra) s = .next (put (decide (a = 0))) ∧
      exec (.fpIsone ra) s = .next (put (decide (a = one))) ∧
      exec (.fpEq ra rb) s = .next (put (decide (a = b)))) ∧
    (∀ a b, readReg s.fp2 ra = some a → readReg s.fp2 rb = some b →
      exec (.fp2Iszero ra) s = .next (put (decide (a.x = 0 ∧ a.y = 0))) ∧
      exec (.fp2Isone ra) s = .next (put (decide (a.x = 0 ∧ a.y = one))) ∧
      exec (.fp2Eq ra rb) s = .next (put (decide (a.x = b.x ∧ a.y = b.y)))) ∧
    (∀ a b, readReg s.fp6 ra = some a → readReg s.fp6 rb = some b →
      exec (.fp6Iszero ra) s = .next (put (decide (a.x = z2 ∧ a.y = z2 ∧ a.z = z2))) ∧
      exec (.fp6Isone ra) s = .next (put (decide (a.x = z2 ∧ a.y = z2 ∧ a.z = ⟨0, one⟩))) ∧
      exec (.fp6Eq ra rb) s = .next (put (decide (a.x = b.x ∧ a.y = b.y ∧ a.z = b.z)))) ∧
    (∀ a b, readReg s.fp12 ra = some a → readReg s.fp12 rb = some b →
      exec (.fp12Iszero ra) s = .next (put (decide (a.x = z6 ∧ a.y = z6))) ∧
      exec (.fp12Isone ra) s = .next (put (decide (a.x = z6 ∧ a.y = o6))) ∧
      exec (.fp12Eq ra rb) s = .next (put (decide (a.x = b.x ∧ a.y = b.y))))

/-- The copies of every file (R177, R214, R245, R275, R319, R349, R381), and PACK and GET at the three levels
(R301 to R306). -/
def Obligations.MovePackGetResults : Prop :=
  (∀ (rd ra : Field6) (s : State), halted s = false → rd.toNat < 16 → ra.toNat < 16 →
    (∀ a, readReg s.fp ra = some a →
      exec (.fpMov rd ra) s = .next { s with err := 0, fp := writeReg s.fp rd a }) ∧
    (∀ a, readReg s.fp2 ra = some a →
      exec (.fp2Mov rd ra) s = .next { s with err := 0, fp2 := writeReg s.fp2 rd a }) ∧
    (∀ a, readReg s.fp6 ra = some a →
      exec (.fp6Mov rd ra) s = .next { s with err := 0, fp6 := writeReg s.fp6 rd a }) ∧
    (∀ a, readReg s.fp12 ra = some a →
      exec (.fp12Mov rd ra) s = .next { s with err := 0, fp12 := writeReg s.fp12 rd a }) ∧
    (∀ a, readReg s.g1 ra = some a →
      exec (.g1Mov rd ra) s = .next { s with err := 0, g1 := writeReg s.g1 rd a }) ∧
    (∀ a, readReg s.g2 ra = some a →
      exec (.g2Mov rd ra) s = .next { s with err := 0, g2 := writeReg s.g2 rd a }) ∧
    (∀ a, readReg s.k ra = some a →
      exec (.kMov rd ra) s = .next { s with err := 0, k := writeReg s.k rd a })) ∧
  (∀ (rd ra rb rc : Field6) (s : State), halted s = false →
    rd.toNat < 16 → ra.toNat < 16 → rb.toNat < 16 → rc.toNat < 16 →
    (∀ x y, readReg s.fp ra = some x → readReg s.fp rb = some y →
      exec (.fp2Pack rd ra rb) s = .next { s with err := 0, fp2 := writeReg s.fp2 rd ⟨x, y⟩ }) ∧
    (∀ a, readReg s.fp2 ra = some a →
      exec (.fp2Get rd ra 0) s = .next { s with err := 0, fp := writeReg s.fp rd a.x } ∧
      exec (.fp2Get rd ra 1) s = .next { s with err := 0, fp := writeReg s.fp rd a.y }) ∧
    (∀ x y z, readReg s.fp2 ra = some x → readReg s.fp2 rb = some y → readReg s.fp2 rc = some z →
      exec (.fp6Pack rd ra rb rc) s =
        .next { s with err := 0, fp6 := writeReg s.fp6 rd ⟨x, y, z⟩ }) ∧
    (∀ a, readReg s.fp6 ra = some a →
      exec (.fp6Get rd ra 0) s = .next { s with err := 0, fp2 := writeReg s.fp2 rd a.x } ∧
      exec (.fp6Get rd ra 1) s = .next { s with err := 0, fp2 := writeReg s.fp2 rd a.y } ∧
      exec (.fp6Get rd ra 2) s = .next { s with err := 0, fp2 := writeReg s.fp2 rd a.z }) ∧
    (∀ x y, readReg s.fp6 ra = some x → readReg s.fp6 rb = some y →
      exec (.fp12Pack rd ra rb) s =
        .next { s with err := 0, fp12 := writeReg s.fp12 rd ⟨x, y⟩ }) ∧
    (∀ a, readReg s.fp12 ra = some a →
      exec (.fp12Get rd ra 0) s = .next { s with err := 0, fp6 := writeReg s.fp6 rd a.x } ∧
      exec (.fp12Get rd ra 1) s = .next { s with err := 0, fp6 := writeReg s.fp6 rd a.y }))

/-- The Fp2 arithmetic commands by their component formulas; the inverse of a non-zero element is the
element whose product with it is one (R203 to R208, R217). -/
def Obligations.Fp2Results : Prop :=
  ∀ (rd ra rb : Field6) (s : State) (a b : Fp2),
    halted s = false → rd.toNat < Config.nFp2 → ra.toNat < Config.nFp2 → rb.toNat < Config.nFp2 →
    readReg s.fp2 ra = some a → readReg s.fp2 rb = some b →
    Fp2.Canonical Config.params a → Fp2.Canonical Config.params b →
    let c := Config.params
    let put := fun v : Fp2 => { s with err := 0, fp2 := writeReg s.fp2 rd v }
    exec (.fp2Add rd ra rb) s = .next (put ⟨Fp.add c a.x b.x, Fp.add c a.y b.y⟩) ∧
    exec (.fp2Sub rd ra rb) s = .next (put ⟨Fp.sub c a.x b.x, Fp.sub c a.y b.y⟩) ∧
    exec (.fp2Neg rd ra) s = .next (put ⟨Fp.neg c a.x, Fp.neg c a.y⟩) ∧
    exec (.fp2Mul rd ra rb) s = .next (put
      ⟨Fp.add c (Fp.mul c a.x b.y) (Fp.mul c a.y b.x),
       Fp.sub c (Fp.mul c a.y b.y) (Fp.mul c a.x b.x)⟩) ∧
    exec (.fp2Sqr rd ra) s = exec (.fp2Mul rd ra ra) s ∧
    exec (.fp2Mulxi rd ra) s = .next (put
      ⟨Fp.add c (Fp.mul c a.x c.xi.y) (Fp.mul c a.y c.xi.x),
       Fp.sub c (Fp.mul c a.y c.xi.y) (Fp.mul c a.x c.xi.x)⟩) ∧
    (a ≠ Fp2.zero → ∃ v, Fp2.Canonical c v ∧ exec (.fp2Inv rd ra) s = .next (put v) ∧
      Fp2.mul c v a = Fp2.one c)

/-- The Fp6 commands by their component formulas, the three Frobenius maps among them (R234 to R239,
R246 to R249). -/
def Obligations.Fp6Results : Prop :=
  ∀ (rd ra rb : Field6) (s : State) (a b : Fp6),
    halted s = false → rd.toNat < Config.nFp6 → ra.toNat < Config.nFp6 → rb.toNat < Config.nFp6 →
    readReg s.fp6 ra = some a → readReg s.fp6 rb = some b →
    Fp6.Canonical Config.params a → Fp6.Canonical Config.params b →
    let c := Config.params
    let put := fun v : Fp6 => { s with err := 0, fp6 := writeReg s.fp6 rd v }
    exec (.fp6Add rd ra rb) s =
      .next (put ⟨Fp2.add c a.x b.x, Fp2.add c a.y b.y, Fp2.add c a.z b.z⟩) ∧
    exec (.fp6Sub rd ra rb) s =
      .next (put ⟨Fp2.sub c a.x b.x, Fp2.sub c a.y b.y, Fp2.sub c a.z b.z⟩) ∧
    exec (.fp6Neg rd ra) s = .next (put ⟨Fp2.neg c a.x, Fp2.neg c a.y, Fp2.neg c a.z⟩) ∧
    exec (.fp6Mul rd ra rb) s = .next (put
      ⟨Fp2.add c (Fp2.add c (Fp2.mul c a.x b.z) (Fp2.mul c a.y b.y)) (Fp2.mul c a.z b.x),
       Fp2.add c (Fp2.add c (Fp2.mul c a.y b.z) (Fp2.mul c a.z b.y))
         (Fp2.mul c c.xi (Fp2.mul c a.x b.x)),
       Fp2.add c (Fp2.mul c a.z b.z)
         (Fp2.mul c c.xi (Fp2.add c (Fp2.mul c a.x b.y) (Fp2.mul c a.y b.x)))⟩) ∧
    exec (.fp6Sqr rd ra) s = exec (.fp6Mul rd ra ra) s ∧
    exec (.fp6Multau rd ra) s = .next (put ⟨a.y, a.z, Fp2.mul c c.xi a.x⟩) ∧
    exec (.fp6Frob rd ra) s = .next (put
      ⟨Fp2.mul c ⟨Fp.neg c a.x.x, a.x.y⟩ (Fp2.pow c c.xi (2 * (c.p - 1) / 3)),
       Fp2.mul c ⟨Fp.neg c a.y.x, a.y.y⟩ (Fp2.pow c c.xi ((c.p - 1) / 3)),
       ⟨Fp.neg c a.z.x, a.z.y⟩⟩) ∧
    exec (.fp6Frobp2 rd ra) s = .next (put
      ⟨Fp2.mul c a.x (Fp2.pow c c.xi (2 * (c.p ^ 2 - 1) / 3)),
       Fp2.mul c a.y (Fp2.pow c c.xi ((c.p ^ 2 - 1) / 3)), a.z⟩) ∧
    exec (.fp6Frobp4 rd ra) s = .next (put
      ⟨Fp2.mul c a.x (Fp2.pow c c.xi ((c.p ^ 2 - 1) / 3)),
       Fp2.mul c a.y (Fp2.pow c c.xi (2 * (c.p ^ 2 - 1) / 3)), a.z⟩) ∧
    (a ≠ Fp6.zero → ∃ v, Fp6.Canonical c v ∧ exec (.fp6Inv rd ra) s = .next (put v) ∧
      Fp6.mul c v a = Fp6.one c)

/-- The Fp12 commands by their component formulas, and the two exponentiations by the loop of R282 (R264 to
R269, R278 to R283). -/
def Obligations.Fp12Results : Prop :=
  ∀ (rd ra rb kb : Field6) (s : State), halted s = false → rd.toNat < Config.nFp12 →
    ra.toNat < Config.nFp12 → rb.toNat < Config.nFp12 → kb.toNat < Config.nK →
    let c := Config.params
    let put := fun v : Fp12 => { s with err := 0, fp12 := writeReg s.fp12 rd v }
    let loop := fun (g : Fp12) (e : Nat) => (bitsMsb e).foldl
      (fun r bit => if bit then Fp12.mul c (Fp12.mul c r r) g else Fp12.mul c r r) (Fp12.one c)
    (∀ a b, readReg s.fp12 ra = some a → readReg s.fp12 rb = some b →
      Fp12.Canonical c a → Fp12.Canonical c b →
      exec (.fp12Add rd ra rb) s = .next (put ⟨Fp6.add c a.x b.x, Fp6.add c a.y b.y⟩) ∧
      exec (.fp12Sub rd ra rb) s = .next (put ⟨Fp6.sub c a.x b.x, Fp6.sub c a.y b.y⟩) ∧
      exec (.fp12Mul rd ra rb) s = .next (put
        ⟨Fp6.add c (Fp6.mul c a.x b.y) (Fp6.mul c a.y b.x),
         Fp6.add c (Fp6.mul c a.y b.y) (Fp6.mulTau c (Fp6.mul c a.x b.x))⟩)) ∧
    (∀ a, readReg s.fp12 ra = some a → Fp12.Canonical c a →
      exec (.fp12Neg rd ra) s = .next (put ⟨Fp6.neg c a.x, Fp6.neg c a.y⟩) ∧
      exec (.fp12Sqr rd ra) s = exec (.fp12Mul rd ra ra) s ∧
      exec (.fp12Conj rd ra) s = .next (put ⟨Fp6.neg c a.x, a.y⟩) ∧
      exec (.fp12Frob rd ra) s = .next (put
        ⟨Fp6.scale c (Fp2.pow c c.xi ((c.p - 1) / 6)) (Fp6.frob c a.x), Fp6.frob c a.y⟩) ∧
      exec (.fp12Frobp2 rd ra) s = .next (put
        ⟨Fp6.scale c (Fp2.pow c c.xi ((c.p ^ 2 - 1) / 6)) (Fp6.frobP2 c a.x), Fp6.frobP2 c a.y⟩) ∧
      exec (.fp12Frobp4 rd ra) s = .next (put
        ⟨Fp6.scale c (Fp2.pow c c.xi ((c.p ^ 2 - 1) / 3)) (Fp6.frobP4 c a.x), Fp6.frobP4 c a.y⟩) ∧
      (a ≠ Fp12.zero → ∃ v, Fp12.Canonical c v ∧ exec (.fp12Inv rd ra) s = .next (put v) ∧
        Fp12.mul c v a = Fp12.one c)) ∧
    (∀ a e, readReg s.fp12 ra = some a → readReg s.k kb = some e →
      exec (.fp12Exp rd ra kb) s = .next (put (loop a e))) ∧
    (∀ e, readReg s.k kb = some e →
      exec (.gtBaseexp rd kb) s = .next (put (loop (c.pairFn c.g1x c.g1y c.g2x c.g2y) e)))

/-! ### Bytes -/

/-- FP.ENC, FP2.ENC, FP12.ENC and K.ST append the big-endian bytes of the plain values after the window's
end, write no other byte, and lengthen the window (R84, R86, R87, R178, R215, R276, R379). -/
def Obligations.EncoderResults : Prop :=
  ∀ (ra : Field6) (s : State), halted s = false → ra.toNat < 16 →
    let be := fun w : MontWord => bytesBE (w.toNat * Config.params.rInv % Config.params.p) 32
    let be2 := fun a : Fp2 => be a.x ++ be a.y
    let start := s.bptr.toNat + s.blen.toNat
    let appends := fun (i : Instr) (len : Nat) (bytes : List Byte) =>
      start + len ≤ Config.bufBytes → ∃ t, exec i s = .next t ∧
        t = { s with err := 0, blen := t.blen, dbuf := t.dbuf } ∧
        t.blen.toNat = s.blen.toNat + len ∧
        memReadRange t.dbuf start len = some bytes ∧
        ∀ j, (j < start ∨ start + len ≤ j) → memRead t.dbuf j = memRead s.dbuf j
    (∀ a, readReg s.fp ra = some a → appends (.fpEnc ra) 32 (be a)) ∧
    (∀ a, readReg s.fp2 ra = some a → appends (.fp2Enc ra) 64 (be2 a)) ∧
    (∀ a, readReg s.fp12 ra = some a → appends (.fp12Enc ra) 384
      (be2 a.x.x ++ be2 a.x.y ++ be2 a.x.z ++ be2 a.y.x ++ be2 a.y.y ++ be2 a.y.z)) ∧
    (∀ e, readReg s.k ra = some e → e < 2 ^ 256 → appends (.kSt ra) 32 (bytesBE e 32))

/-- G1.MARSHAL and G2.MARSHAL append the bytes of the affine image, or zero bytes for the point at infinity
(R88, R89, R432, R434). -/
def Obligations.MarshalResults : Prop :=
  ∀ (ra : Field6) (s : State), halted s = false → ra.toNat < 16 →
    let c := Config.params
    let be := fun w : MontWord => bytesBE (Fp.val c w) 32
    let start := s.bptr.toNat + s.blen.toNat
    let appends := fun (i : Instr) (len : Nat) (bytes : List Byte) =>
      start + len ≤ Config.bufBytes → ∃ t, exec i s = .next t ∧
        t = { s with err := 0, blen := t.blen, dbuf := t.dbuf } ∧
        t.blen.toNat = s.blen.toNat + len ∧
        memReadRange t.dbuf start len = some bytes ∧
        ∀ j, (j < start ∨ start + len ≤ j) → memRead t.dbuf j = memRead s.dbuf j
    (∀ j, readReg s.g1 ra = some j →
      (j.z = 0 → appends (.g1Marshal ra) 64 (List.replicate 64 0)) ∧
      (∀ x y, affineOf (fpOps c) j = .pt x y → appends (.g1Marshal ra) 64 (be x ++ be y))) ∧
    (∀ j, readReg s.g2 ra = some j →
      (j.z = ⟨0, 0⟩ → appends (.g2Marshal ra) 128 (List.replicate 128 0)) ∧
      (∀ x y, affineOf (fp2Ops c) j = .pt x y →
        appends (.g2Marshal ra) 128 (be x.x ++ be x.y ++ be y.x ++ be y.y)))

/-- FP.DEC, FP2.DEC, FP12.DEC and K.LD take bytes from the front of the window; a limb is reduced modulo p
(R85, R90, R179, R216, R277, R378). -/
def Obligations.DecoderResults : Prop :=
  ∀ (rd : Field6) (s : State) (len : Nat) (bytes : List Byte), halted s = false → rd.toNat < 16 →
    s.bptr.toNat + s.blen.toNat ≤ Config.bufBytes → len ≤ s.blen.toNat →
    memReadRange s.dbuf s.bptr.toNat len = some bytes →
    let limb := fun j => BitVec.ofNat 256
      (beNat ((bytes.drop (32 * j)).take 32) * 2 ^ 256 % Config.params.p)
    let pair := fun j => (⟨limb j, limb (j + 1)⟩ : Fp2)
    let t := { s with err := 0, bptr := BitVec.ofNat 32 (s.bptr.toNat + len),
                      blen := BitVec.ofNat 32 (s.blen.toNat - len) }
    (len = 32 → exec (.fpDec rd) s = .next { t with fp := writeReg s.fp rd (limb 0) }) ∧
    (len = 64 → exec (.fp2Dec rd) s = .next { t with fp2 := writeReg s.fp2 rd (pair 0) }) ∧
    (len = 384 → exec (.fp12Dec rd) s = .next
      { t with fp12 := writeReg s.fp12 rd ⟨⟨pair 0, pair 2, pair 4⟩, ⟨pair 6, pair 8, pair 10⟩⟩ }) ∧
    (len = s.blen.toNat → exec (.kLd rd) s = .next { t with k := writeReg s.k rd (beNat bytes) })

/-- G1.UNMARSHAL and G2.UNMARSHAL: the all-zero pattern gives the point at infinity, a point that passes its
group's check is written as (x, y, 1, 1), and any other candidate is MalformedPoint, which changes ERR and
nothing else (R346, R433, R435, R436, R466). -/
def Obligations.UnmarshalResults : Prop :=
  ∀ (rd : Field6) (s : State) (len : Nat) (bytes : List Byte), halted s = false → rd.toNat < 16 →
    s.bptr.toNat + s.blen.toNat ≤ Config.bufBytes → len ≤ s.blen.toNat →
    memReadRange s.dbuf s.bptr.toNat len = some bytes →
    let c := Config.params
    let v := fun j => beNat ((bytes.drop (32 * j)).take 32)
    let limb := fun j => Fp.enc c (v j)
    let pair := fun j => (⟨limb j, limb (j + 1)⟩ : Fp2)
    let allZero := fun n => match Config.allZeroOn with
      | .bytes => ∀ j, j < n → v j = 0
      | .values => ∀ j, j < n → v j % c.p = 0
    let t := { s with err := 0, bptr := BitVec.ofNat 32 (s.bptr.toNat + len),
                      blen := BitVec.ofNat 32 (s.blen.toNat - len) }
    let good1 := Fp.mul c (limb 1) (limb 1) =
      Fp.add c (Fp.mul c (Fp.mul c (limb 0) (limb 0)) (limb 0)) (Fp.enc c 3)
    let good2 := Fp2.mul c (pair 2) (pair 2) =
        Fp2.add c (Fp2.mul c (Fp2.mul c (pair 0) (pair 0)) (pair 0)) c.b2 ∧
      Aff.smul (fp2Ops c) c.n (.pt (pair 0) (pair 2)) = .inf
    (len = 64 →
      (allZero 2 → exec (.g1Unmarshal rd) s =
        .next { t with g1 := writeReg s.g1 rd ⟨0, Fp.one c, 0, 0⟩ }) ∧
      (¬ allZero 2 → good1 → exec (.g1Unmarshal rd) s =
        .next { t with g1 := writeReg s.g1 rd ⟨limb 0, limb 1, Fp.one c, Fp.one c⟩ }) ∧
      (¬ allZero 2 → ¬ good1 → exec (.g1Unmarshal rd) s = .next { s with err := 2 })) ∧
    (len = 128 →
      (allZero 4 → exec (.g2Unmarshal rd) s =
        .next { t with g2 := writeReg s.g2 rd ⟨⟨0, 0⟩, Fp2.one c, ⟨0, 0⟩, ⟨0, 0⟩⟩ }) ∧
      (¬ allZero 4 → good2 → exec (.g2Unmarshal rd) s =
        .next { t with g2 := writeReg s.g2 rd ⟨pair 0, pair 2, Fp2.one c, Fp2.one c⟩ }) ∧
      (¬ allZero 4 → ¬ good2 → exec (.g2Unmarshal rd) s = .next { s with err := 2 }))

/-! ### Components, points, pairing -/

/-- The G1 point commands: an infinite operand of ADD gives an exact copy of the other, every other result has
the affine image the rule gives, its words free (log 8), and AFF gives (x, y, 1, 1), or a copy of an infinite
point (log 25). The sum is that of R311's table and the multiple that of R375's loop (R311 to R315, R373 to
R375). -/
def Obligations.G1PointResults : Prop :=
  ∀ (rd ra rb kb : Field6) (s : State), halted s = false →
    rd.toNat < 16 → ra.toNat < 16 → rb.toNat < 16 → kb.toNat < 16 →
    let c := Config.params
    let K := fpOps c
    let put := fun (j : Jac MontWord) (d : Nat) =>
      { s with err := 0, draws := d, g1 := writeReg s.g1 rd j }
    let hasImage := fun (i : Instr) (P : Aff MontWord) =>
      ∃ j d, exec i s = .next (put j d) ∧ affineOf K j = P
    (∀ p q, readReg s.g1 ra = some p → readReg s.g1 rb = some q →
      Jac.All (Fp.Canonical c) p → Jac.All (Fp.Canonical c) q →
      (p.z = 0 → exec (.g1Add rd ra rb) s = .next (put q s.draws)) ∧
      (p.z ≠ 0 → q.z = 0 → exec (.g1Add rd ra rb) s = .next (put p s.draws)) ∧
      hasImage (.g1Add rd ra rb) (Aff.add K (affineOf K p) (affineOf K q))) ∧
    (∀ p, readReg s.g1 ra = some p → Jac.All (Fp.Canonical c) p →
      hasImage (.g1Dbl rd ra) (Aff.add K (affineOf K p) (affineOf K p)) ∧
      (p.z = 0 → hasImage (.g1Neg rd ra) .inf ∧ exec (.g1Aff rd ra) s = .next (put p s.draws)) ∧
      (∀ x y, affineOf K p = .pt x y → hasImage (.g1Neg rd ra) (.pt x (Fp.neg c y)) ∧
        exec (.g1Aff rd ra) s = .next (put ⟨x, y, Fp.one c, Fp.one c⟩ s.draws))) ∧
    (∀ p e, readReg s.g1 ra = some p → readReg s.k kb = some e → Jac.All (Fp.Canonical c) p →
      hasImage (.g1Mul rd ra kb) (Aff.smul K e (affineOf K p))) ∧
    (∀ e, readReg s.k kb = some e →
      hasImage (.g1Basemul rd kb) (Aff.smul K e (.pt c.g1x c.g1y))) ∧
    (∀ P Q, Aff.All (Fp.Canonical c) P → Aff.All (Fp.Canonical c) Q → IsSum K P Q (Aff.add K P Q)) ∧
    (∀ (P : Aff MontWord) (k : Nat), Aff.smul K 0 P = .inf ∧
      Aff.smul K (2 * k) P = Aff.add K (Aff.smul K k P) (Aff.smul K k P) ∧
      Aff.smul K (2 * k + 1) P = Aff.add K (Aff.add K (Aff.smul K k P) (Aff.smul K k P)) P)

/-- The G2 point commands, as those of G1, with R311's table and R375's loop over Fp2; the words of a result are
free (log 8), and AFF copies an infinite point (log 25) (R341 to R345, R375 to R377). -/
def Obligations.G2PointResults : Prop :=
  ∀ (rd ra rb kb : Field6) (s : State), halted s = false →
    rd.toNat < 16 → ra.toNat < 16 → rb.toNat < 16 → kb.toNat < 16 →
    let c := Config.params
    let K := fp2Ops c
    let put := fun (j : Jac Fp2) (d : Nat) =>
      { s with err := 0, draws := d, g2 := writeReg s.g2 rd j }
    let hasImage := fun (i : Instr) (P : Aff Fp2) =>
      ∃ j d, exec i s = .next (put j d) ∧ affineOf K j = P
    (∀ p q, readReg s.g2 ra = some p → readReg s.g2 rb = some q →
      Jac.All (Fp2.Canonical c) p → Jac.All (Fp2.Canonical c) q →
      (p.z = ⟨0, 0⟩ → exec (.g2Add rd ra rb) s = .next (put q s.draws)) ∧
      (p.z ≠ ⟨0, 0⟩ → q.z = ⟨0, 0⟩ → exec (.g2Add rd ra rb) s = .next (put p s.draws)) ∧
      hasImage (.g2Add rd ra rb) (Aff.add K (affineOf K p) (affineOf K q))) ∧
    (∀ p, readReg s.g2 ra = some p → Jac.All (Fp2.Canonical c) p →
      hasImage (.g2Dbl rd ra) (Aff.add K (affineOf K p) (affineOf K p)) ∧
      (p.z = ⟨0, 0⟩ → hasImage (.g2Neg rd ra) .inf ∧ exec (.g2Aff rd ra) s = .next (put p s.draws)) ∧
      (∀ x y, affineOf K p = .pt x y → hasImage (.g2Neg rd ra) (.pt x (Fp2.neg c y)) ∧
        exec (.g2Aff rd ra) s = .next (put ⟨x, y, Fp2.one c, Fp2.one c⟩ s.draws))) ∧
    (∀ p e, readReg s.g2 ra = some p → readReg s.k kb = some e → Jac.All (Fp2.Canonical c) p →
      hasImage (.g2Mul rd ra kb) (Aff.smul K e (affineOf K p))) ∧
    (∀ e, readReg s.k kb = some e →
      hasImage (.g2Basemul rd kb) (Aff.smul K e (.pt c.g2x c.g2y))) ∧
    (∀ P Q, Aff.All (Fp2.Canonical c) P → Aff.All (Fp2.Canonical c) Q → IsSum K P Q (Aff.add K P Q)) ∧
    (∀ (P : Aff Fp2) (k : Nat), Aff.smul K 0 P = .inf ∧
      Aff.smul K (2 * k) P = Aff.add K (Aff.smul K k P) (Aff.smul K k P) ∧
      Aff.smul K (2 * k + 1) P = Aff.add K (Aff.add K (Aff.smul K k P) (Aff.smul K k P)) P)

/-- G1.ONCURVE tests the equation alone, G2.ONCURVE the equation and the order; infinity passes both
(R316, R317, R346, R347). -/
def Obligations.OnCurveResults : Prop :=
  ∀ (ra : Field6) (s : State), halted s = false → ra.toNat < 16 →
    let c := Config.params
    let put := fun r : Bool => { s with err := 0, res := r }
    (∀ j, readReg s.g1 ra = some j →
      (j.z = 0 → exec (.g1Oncurve ra) s = .next (put true)) ∧
      (∀ x y, affineOf (fpOps c) j = .pt x y → exec (.g1Oncurve ra) s = .next (put (decide
        (Fp.mul c y y = Fp.add c (Fp.mul c (Fp.mul c x x) x) (Fp.enc c 3)))))) ∧
    (∀ j, readReg s.g2 ra = some j →
      (j.z = ⟨0, 0⟩ → exec (.g2Oncurve ra) s = .next (put true)) ∧
      (∀ x y, affineOf (fp2Ops c) j = .pt x y → exec (.g2Oncurve ra) s = .next (put (decide
        (Fp2.mul c y y = Fp2.add c (Fp2.mul c (Fp2.mul c x x) x) c.b2 ∧
          Aff.smul (fp2Ops c) c.n (.pt x y) = .inf)))))

/-- G1.RANDOM and G2.RANDOM: a waiting scalar of [1, n) is stored with its multiple of the generator, a
failure is EntropyFailure with neither destination written, and with nothing waiting one of the two
happens (R438 to R440, R467; the list of waiting answers is the model's, log 9; that RANDOM ends rests on a
source that answers, R518, log 17). -/
def Obligations.RandomResults : Prop :=
  ∀ (rd kd : Field6) (s : State), halted s = false → rd.toNat < 16 → kd.toNat < 16 →
    let c := Config.params
    let drawn1 := fun (t : State) (r : Nat) => ∃ j d, exec (.g1Random rd kd) s = .next
        { t with err := 0, draws := d, k := writeReg s.k kd r, g1 := writeReg s.g1 rd j } ∧
      affineOf (fpOps c) j = Aff.smul (fpOps c) r (.pt c.g1x c.g1y)
    let drawn2 := fun (t : State) (r : Nat) => ∃ j d, exec (.g2Random rd kd) s = .next
        { t with err := 0, draws := d, k := writeReg s.k kd r, g2 := writeReg s.g2 rd j } ∧
      affineOf (fp2Ops c) j = Aff.smul (fp2Ops c) r (.pt c.g2x c.g2y)
    (∀ r rest, s.entropy = .scalar r :: rest → 1 ≤ r → r < c.n →
      drawn1 { s with entropy := rest } r ∧ drawn2 { s with entropy := rest } r) ∧
    (∀ rest, s.entropy = .fail :: rest →
      exec (.g1Random rd kd) s = .next { s with err := 3, entropy := rest } ∧
      exec (.g2Random rd kd) s = .next { s with err := 3, entropy := rest }) ∧
    (s.entropy = [] →
      ((∃ d, exec (.g1Random rd kd) s = .next { s with err := 3, draws := d }) ∨
        ∃ r, 1 ≤ r ∧ r < c.n ∧ drawn1 s r) ∧
      ((∃ d, exec (.g2Random rd kd) s = .next { s with err := 3, draws := d }) ∨
        ∃ r, 1 ≤ r ∧ r < c.n ∧ drawn2 s r))

/-- MILLER and PAIR: one where an operand is infinite, else the configuration function on the affine
images, which log 16 takes as total; on points of G1 and G2 the pairing is the final exponentiation of the
Miller value, and has order dividing n (R402, R404, R405, R407). -/
def Obligations.MillerPairResults : Prop :=
  ∀ (rd ra rb : Field6) (s : State) (p : Jac MontWord) (q : Jac Fp2),
    halted s = false → rd.toNat < 16 → ra.toNat < 16 → rb.toNat < 16 →
    readReg s.g1 ra = some p → readReg s.g2 rb = some q →
    let c := Config.params
    let put := fun v : Fp12 => { s with err := 0, fp12 := writeReg s.fp12 rd v }
    ((p.z = 0 ∨ q.z = ⟨0, 0⟩) →
      exec (.miller rd ra rb) s = .next (put (Fp12.one c)) ∧
      exec (.pair rd ra rb) s = .next (put (Fp12.one c))) ∧
    (∀ xp yp xq yq, affineOf (fpOps c) p = .pt xp yp → affineOf (fp2Ops c) q = .pt xq yq →
      exec (.miller rd ra rb) s = .next (put (c.millerFn xp yp xq yq)) ∧
      exec (.pair rd ra rb) s = .next (put (c.pairFn xp yp xq yq)) ∧
      (onCurve1 c (.pt xp yp) = true → onCurve2 c (.pt xq yq) = true →
        c.millerFn xp yp xq yq ≠ Fp12.zero ∧
        c.pairFn xp yp xq yq = finalExp c (c.millerFn xp yp xq yq) ∧
        Fp12.pow c (c.pairFn xp yp xq yq) c.n = Fp12.one c))

/-- FINALEXP raises a non-zero value to the power E with E·n = p¹² − 1 (R401, R406). -/
def Obligations.FinalExpResult : Prop :=
  ∀ (rd ra : Field6) (s : State) (f : Fp12) (e : Nat),
    halted s = false → rd.toNat < Config.nFp12 → ra.toNat < Config.nFp12 →
    readReg s.fp12 ra = some f → f ≠ Fp12.zero →
    e * Config.params.n = Config.params.p ^ 12 - 1 →
    exec (.finalexp rd ra) s =
      .next { s with err := 0, fp12 := writeReg s.fp12 rd (Fp12.pow Config.params f e) }

/-- PAIRCHK on two lists of equal length: RES says whether the final exponentiation of the product of the
raw values, pairs with an infinite member skipped, is one; no register is written (R408). -/
def Obligations.PairCheckResult : Prop :=
  ∀ (ra rb : Field6) (s : State) (ps : List (Jac MontWord)) (qs : List (Jac Fp2)),
    halted s = false → ra.toNat < Config.nG1 → rb.toNat < Config.nG2 → s.lena = s.lenb →
    ra.toNat + s.lena.toNat ≤ Config.nG1 → rb.toNat + s.lenb.toNat ≤ Config.nG2 →
    ps.length = s.lena.toNat → qs.length = s.lenb.toNat →
    (∀ i (h : i < ps.length), ∃ hn : ra.toNat + i < Config.nG1,
      s.g1[ra.toNat + i] = ⟨true, ps[i]⟩) →
    (∀ i (h : i < qs.length), ∃ hn : rb.toNat + i < Config.nG2,
      s.g2[rb.toNat + i] = ⟨true, qs[i]⟩) →
    let c := Config.params
    let acc := (ps.zip qs).foldl
      (fun acc pq => match affineOf (fpOps c) pq.1, affineOf (fp2Ops c) pq.2 with
        | .pt xp yp, .pt xq yq => Fp12.mul c acc (c.millerFn xp yp xq yq)
        | _, _ => acc) (Fp12.one c)
    exec (.pairchk ra rb) s =
      .next { s with err := 0, res := decide (finalExp c acc = Fp12.one c) }

/-! ### Faults, errors and their order -/

/-- A source register that is not valid is UninitOperand, for every command with a source; PAIRCHK once its
lists have a legal shape (R461, R470 step 4). -/
def Obligations.UninitOperandFaults : Prop :=
  (∀ (i : Instr) (s : State), Ready i s → (∃ r ∈ instrSources i, registerValid s r = false) →
    exec i s = .next { s with fault := 2, finfo := encode i }) ∧
  (∀ (ra rb : Field6) (s : State), Ready (.pairchk ra rb) s → s.lena = s.lenb →
    ra.toNat + s.lena.toNat ≤ Config.nG1 → rb.toNat + s.lena.toNat ≤ Config.nG2 →
    (∃ j, j < s.lena.toNat ∧
      ((∃ r, s.g1[ra.toNat + j]? = some r ∧ r.valid = false) ∨
       (∃ r, s.g2[rb.toNat + j]? = some r ∧ r.valid = false))) →
    exec (.pairchk ra rb) s = .next { s with fault := 2, finfo := encode (.pairchk ra rb) })

/-- Inverting zero, and FINALEXP of zero, is InvertZero (R171, R208, R239, R269, R406, R461). K.ST of a scalar
that does not fit 32 bytes is ScalarRange, where there is room (R379, R461). PAIRCHK with lists of unequal
length, or with a list that runs past the end of its file, is IndexRange, whether or not the registers are
valid (R408, R461, R470 step 3). -/
def Obligations.OperandFaults : Prop :=
  (∀ (rd ra : Field6) (s : State), halted s = false → rd.toNat < 16 → ra.toNat < 16 →
    let faults := fun i : Instr => exec i s = .next { s with fault := 3, finfo := encode i }
    (readReg s.fp ra = some 0 → faults (.fpInv rd ra)) ∧
    (readReg s.fp2 ra = some Fp2.zero → faults (.fp2Inv rd ra)) ∧
    (readReg s.fp6 ra = some Fp6.zero → faults (.fp6Inv rd ra)) ∧
    (readReg s.fp12 ra = some Fp12.zero → faults (.fp12Inv rd ra) ∧ faults (.finalexp rd ra))) ∧
  (∀ (ka : Field6) (s : State) (e : Nat), Ready (.kSt ka) s → readReg s.k ka = some e →
    s.bptr.toNat + s.blen.toNat + 32 ≤ Config.bufBytes → 2 ^ 256 ≤ e →
    exec (.kSt ka) s = .next { s with fault := 6, finfo := encode (.kSt ka) }) ∧
  (∀ (ra rb : Field6) (s : State), Ready (.pairchk ra rb) s →
    (s.lena ≠ s.lenb ∨ Config.nG1 < ra.toNat + s.lena.toNat ∨
      Config.nG2 < rb.toNat + s.lenb.toNat) →
    exec (.pairchk ra rb) s = .next { s with fault := 4, finfo := encode (.pairchk ra rb) })

/-- The window checks in their order: position, length, bytes (R82, R465, R470 steps 5 to 7). -/
def Obligations.WindowChecks : Prop :=
  (∀ (i : Instr) (s : State), Ready i s → 0 < instrAppended i →
    (∀ r ∈ instrSources i, registerValid s r = true) →
    Config.bufBytes < s.bptr.toNat + s.blen.toNat + instrAppended i →
    exec i s = .next { s with fault := 5, finfo := encode i }) ∧
  (∀ (i : Instr) (s : State), Ready i s → 0 < instrNeeded i →
    (Config.bufBytes < s.bptr.toNat + s.blen.toNat →
      exec i s = .next { s with fault := 5, finfo := encode i }) ∧
    (s.bptr.toNat + s.blen.toNat ≤ Config.bufBytes → s.blen.toNat < instrNeeded i →
      exec i s = .next { s with err := 1 }) ∧
    (s.bptr.toNat + s.blen.toNat ≤ Config.bufBytes → instrNeeded i ≤ s.blen.toNat →
      (∃ j, s.bptr.toNat ≤ j ∧ j < s.bptr.toNat + instrNeeded i ∧ memRead s.dbuf j = none) →
      exec i s = .next { s with fault := 2, finfo := encode i })) ∧
  (∀ (kd : Field6) (s : State), Ready (.kLd kd) s →
    (Config.bufBytes < s.bptr.toNat + s.blen.toNat →
      exec (.kLd kd) s = .next { s with fault := 5, finfo := encode (.kLd kd) }) ∧
    (s.bptr.toNat + s.blen.toNat ≤ Config.bufBytes →
      (∃ j, s.bptr.toNat ≤ j ∧ j < s.bptr.toNat + s.blen.toNat ∧ memRead s.dbuf j = none) →
      exec (.kLd kd) s = .next { s with fault := 2, finfo := encode (.kLd kd) }))

/-- Every command answers a next state, and a command that runs ends in one of three ways: success
with ERR 0, an error that changes ERR and nothing else of the engine, a fault that changes FAULT and FINFO
and nothing else (R460, R463, R468). The model's choices in it: that RANDOM ends rests on an entropy source
that answers (R518, log 17), and that exec of an illegal command, or on a halted engine, answers a next state
rests on log 13. -/
def Obligations.ThreeEndings : Prop :=
  (∀ (i : Instr) (s : State), ∃ t, exec i s = .next t) ∧
  (∀ (i : Instr) (s t : State), Ready i s → exec i s = .next t →
    (t.err = 0 ∧ t.fault = s.fault ∧ t.finfo = s.finfo) ∨
    (∃ e, t = { s with err := errorNumber e, entropy := t.entropy, draws := t.draws }) ∨
    (∃ c, t = { s with fault := faultNumber c, finfo := encode i }))

/-! ### Frames -/

/-- What no command changes: the registers that are not its destinations, RES but for the predicates, the
list lengths, the window but for the buffer commands, and what belongs to the host (R45, R54, R55, R165,
R478). -/
def Obligations.RegisterFrame : Prop :=
  ∀ (i : Instr) (s t : State), exec i s = .next t →
    (∀ r, r ∉ instrDests i → sameRegister s t r) ∧
    (instrWritesRes i = false → t.res = s.res) ∧
    t.lena = s.lena ∧ t.lenb = s.lenb ∧ t.host = s.host ∧ t.hostData = s.hostData ∧
    ((instrAppended i = 0 ∧ instrNeeded i = 0 ∧ ∀ kd, i ≠ .kLd kd) →
      t.bptr = s.bptr ∧ t.blen = s.blen)

/-- Every byte of DBUF outside the bytes a command appends reads as before; a command that appends nothing
leaves every byte (R21, R93). -/
def Obligations.MemoryFrame : Prop :=
  ∀ (i : Instr) (s t : State), exec i s = .next t →
    (∀ a, (a < windowEnd s ∨ windowEnd s + instrAppended i ≤ a) →
      memRead t.dbuf a = memRead s.dbuf a) ∧
    (instrAppended i = 0 → t.dbuf = s.dbuf)

/-! ### Invariants of every step -/

/-- Every step keeps: memory in its canonical form and inside DBUF, every valid register canonical, legal
codes in FAULT and ERR (R43, R49, R50, R80, R163). -/
def Obligations.StepKeepsCanonicalState : Prop :=
  ∀ s t : State, Inv s → step s = .next t → Inv t

/-- The reset event leaves the engine as State.reset has it, and the model's fields for the host and the
entropy source as they were (R500; contents log 1, the four fields log 18); that state meets the
invariants. -/
def Obligations.ResetMeetsEveryInvariant : Prop :=
  (∀ s : State, access .reset s = .next { State.reset with
    host := s.host, hostData := s.hostData, entropy := s.entropy, draws := s.draws }) ∧
  Inv State.reset ∧ G1OnCurve State.reset ∧ G2OnTwist State.reset ∧ G2InSubgroup State.reset

/-- Every step keeps the affine image of every valid g1 register on y² = x³ + 3, or INF (R61 (d), R320,
R441). -/
def Obligations.StepKeepsG1OnCurve : Prop :=
  ∀ s t : State, Inv s → G1OnCurve s → step s = .next t → G1OnCurve t

/-- Every step keeps the affine image of every valid g2 register on y² = x³ + 3/ξ, or INF (the equation of
R61 (d); R350, R441). -/
def Obligations.StepKeepsG2OnTwist : Prop :=
  ∀ s t : State, Inv s → G2OnTwist s → step s = .next t → G2OnTwist t

/-- Every step keeps the affine image of every valid g2 register on the twist and of order dividing n, or INF
(R61 (d), R346, R350, R441). -/
def Obligations.StepKeepsG2InSubgroup : Prop :=
  ∀ s t : State, Inv s → G2InSubgroup s → step s = .next t → G2InSubgroup t

/-- States that differ only in the representatives of points with equal affine images stay so, step for
step, whatever the host does (R322; the draws of log 8 and log 11 are the same on both sides). -/
def Obligations.RepresentativesInvisible : Prop :=
  ∀ s t s' : State, SameImages s t → step s = .next s' →
    ∃ t', step t = .next t' ∧ SameImages s' t'

/-! ### Laws of the arithmetic -/

/-- The field laws of Fp on canonical words (R181). -/
def Obligations.FpFieldLaws : Prop :=
  let c := Config.params
  ∀ a b d : MontWord, Fp.Canonical c a → Fp.Canonical c b → Fp.Canonical c d →
    Fp.add c a b = Fp.add c b a ∧ Fp.mul c a b = Fp.mul c b a ∧
    Fp.add c (Fp.add c a b) d = Fp.add c a (Fp.add c b d) ∧
    Fp.mul c (Fp.mul c a b) d = Fp.mul c a (Fp.mul c b d) ∧
    Fp.mul c a (Fp.add c b d) = Fp.add c (Fp.mul c a b) (Fp.mul c a d) ∧
    Fp.add c a 0 = a ∧ Fp.mul c a (Fp.one c) = a ∧ Fp.add c a (Fp.neg c a) = 0 ∧
    Fp.sub c a b = Fp.add c a (Fp.neg c b) ∧ (a ≠ 0 → Fp.mul c a (Fp.inv c a) = Fp.one c) ∧
    Fp.sqr c a = Fp.mul c a a ∧ Fp.neg c (Fp.neg c a) = a ∧
    (a ≠ 0 → Fp.inv c (Fp.inv c a) = a)

/-- The two conversions compose to the identity on canonical input, and two in one direction do not cancel
(R183). -/
def Obligations.ConversionRoundTrip : Prop :=
  let c := Config.params
  (∀ v, v < c.p → Fp.toBytes c (Fp.ofLimb c (bytesBE v 32) 0) = bytesBE v 32) ∧
  (∀ a, Fp.Canonical c a → Fp.ofLimb c (Fp.toBytes c a) 0 = a) ∧
  (∀ v, v < 2 ^ 256 → (Fp.enc c (Fp.enc c v).toNat).toNat = v * (2 ^ 256) ^ 2 % c.p)

/-- The field laws of Fp2 (R219). -/
def Obligations.Fp2FieldLaws : Prop :=
  let c := Config.params
  ∀ a b d : Fp2, Fp2.Canonical c a → Fp2.Canonical c b → Fp2.Canonical c d →
    Fp2.add c a b = Fp2.add c b a ∧ Fp2.mul c a b = Fp2.mul c b a ∧
    Fp2.add c (Fp2.add c a b) d = Fp2.add c a (Fp2.add c b d) ∧ Fp2.add c a Fp2.zero = a ∧
    Fp2.Canonical c (Fp2.add c a b) ∧ Fp2.Canonical c (Fp2.mul c a b) ∧
    Fp2.Canonical c (Fp2.neg c a) ∧ Fp2.Canonical c (Fp2.inv c a) ∧
    Fp2.mul c (Fp2.mul c a b) d = Fp2.mul c a (Fp2.mul c b d) ∧
    Fp2.mul c a (Fp2.add c b d) = Fp2.add c (Fp2.mul c a b) (Fp2.mul c a d) ∧
    Fp2.mul c a (Fp2.one c) = a ∧ Fp2.add c a (Fp2.neg c a) = Fp2.zero ∧
    Fp2.sqr c a = Fp2.mul c a a ∧ (a ≠ Fp2.zero → Fp2.mul c a (Fp2.inv c a) = Fp2.one c) ∧
    Fp2.mulXi c (Fp2.mul c a b) = Fp2.mul c (Fp2.mulXi c a) b

/-- The field laws of Fp6, and that multiplying by τ three times multiplies every component by ξ (R250). -/
def Obligations.Fp6FieldLaws : Prop :=
  let c := Config.params
  ∀ a b d : Fp6, Fp6.Canonical c a → Fp6.Canonical c b → Fp6.Canonical c d →
    Fp6.add c a b = Fp6.add c b a ∧ Fp6.mul c a b = Fp6.mul c b a ∧
    Fp6.add c (Fp6.add c a b) d = Fp6.add c a (Fp6.add c b d) ∧ Fp6.add c a Fp6.zero = a ∧
    Fp6.Canonical c (Fp6.add c a b) ∧ Fp6.Canonical c (Fp6.mul c a b) ∧
    Fp6.Canonical c (Fp6.neg c a) ∧ Fp6.Canonical c (Fp6.inv c a) ∧
    Fp6.mul c (Fp6.mul c a b) d = Fp6.mul c a (Fp6.mul c b d) ∧
    Fp6.mul c a (Fp6.add c b d) = Fp6.add c (Fp6.mul c a b) (Fp6.mul c a d) ∧
    Fp6.mul c a (Fp6.one c) = a ∧ Fp6.add c a (Fp6.neg c a) = Fp6.zero ∧
    Fp6.sqr c a = Fp6.mul c a a ∧ (a ≠ Fp6.zero → Fp6.mul c a (Fp6.inv c a) = Fp6.one c) ∧
    Fp6.mulTau c (Fp6.mulTau c (Fp6.mulTau c a)) =
      ⟨Fp2.mulXi c a.x, Fp2.mulXi c a.y, Fp2.mulXi c a.z⟩

/-- The field laws of Fp12, and that a times its conjugate is the norm, in Fp6 (R285). -/
def Obligations.Fp12FieldLaws : Prop :=
  let c := Config.params
  ∀ a b d : Fp12, Fp12.Canonical c a → Fp12.Canonical c b → Fp12.Canonical c d →
    Fp12.add c a b = Fp12.add c b a ∧ Fp12.mul c a b = Fp12.mul c b a ∧
    Fp12.add c (Fp12.add c a b) d = Fp12.add c a (Fp12.add c b d) ∧ Fp12.add c a Fp12.zero = a ∧
    Fp12.Canonical c (Fp12.add c a b) ∧ Fp12.Canonical c (Fp12.mul c a b) ∧
    Fp12.Canonical c (Fp12.neg c a) ∧ Fp12.Canonical c (Fp12.inv c a) ∧
    Fp12.mul c (Fp12.mul c a b) d = Fp12.mul c a (Fp12.mul c b d) ∧
    Fp12.mul c a (Fp12.add c b d) = Fp12.add c (Fp12.mul c a b) (Fp12.mul c a d) ∧
    Fp12.mul c a (Fp12.one c) = a ∧ Fp12.add c a (Fp12.neg c a) = Fp12.zero ∧
    Fp12.sqr c a = Fp12.mul c a a ∧ (a ≠ Fp12.zero → Fp12.mul c a (Fp12.inv c a) = Fp12.one c) ∧
    Fp12.mul c a (Fp12.conj c a) = ⟨Fp6.zero, Fp12.norm c a⟩

/-- The laws of exponentiation (R282, R286): exponents add, multiply, and distribute over a product; the
exponent 0 gives one even for zero. -/
def Obligations.ExponentLaws : Prop :=
  let c := Config.params
  ∀ (a b : Fp12) (m n : Nat), Fp12.Canonical c a → Fp12.Canonical c b →
    Fp12.pow c a 0 = Fp12.one c ∧ Fp12.pow c a 1 = a ∧
    Fp12.pow c a (m + n) = Fp12.mul c (Fp12.pow c a m) (Fp12.pow c a n) ∧
    Fp12.pow c (Fp12.pow c a m) n = Fp12.pow c a (m * n) ∧
    Fp12.pow c (Fp12.mul c a b) n = Fp12.mul c (Fp12.pow c a n) (Fp12.pow c b n)

/-- The Frobenius maps of Fp6 and Fp12: how they compose, and that they respect sum and product (R251,
R286). -/
def Obligations.FrobeniusLaws : Prop :=
  let c := Config.params
  (∀ a b : Fp6, Fp6.Canonical c a → Fp6.Canonical c b →
    Fp6.frob c (Fp6.frob c a) = Fp6.frobP2 c a ∧ Fp6.frobP2 c (Fp6.frobP2 c a) = Fp6.frobP4 c a ∧
    Fp6.frobP4 c (Fp6.frobP2 c a) = a ∧
    Fp6.frob c (Fp6.add c a b) = Fp6.add c (Fp6.frob c a) (Fp6.frob c b) ∧
    Fp6.frob c (Fp6.mul c a b) = Fp6.mul c (Fp6.frob c a) (Fp6.frob c b)) ∧
  (∀ a b : Fp12, Fp12.Canonical c a → Fp12.Canonical c b →
    Fp12.frob c (Fp12.frob c a) = Fp12.frobP2 c a ∧
    Fp12.frobP2 c (Fp12.frobP2 c a) = Fp12.frobP4 c a ∧
    Fp12.frobP2 c (Fp12.frobP4 c a) = Fp12.conj c a ∧
    Fp12.frob c (Fp12.add c a b) = Fp12.add c (Fp12.frob c a) (Fp12.frob c b) ∧
    Fp12.frob c (Fp12.mul c a b) = Fp12.mul c (Fp12.frob c a) (Fp12.frob c b))

/-- FP12.FROB is the p-th power, and FP12.CONJ the p⁶-th (R278, R281, R286). -/
def Obligations.FrobeniusIsPower : Prop :=
  let c := Config.params
  ∀ a : Fp12, Fp12.Canonical c a →
    Fp12.frob c a = Fp12.pow c a c.p ∧ Fp12.conj c a = Fp12.pow c a (c.p ^ 6)

/-- The final exponentiation fixes one, is multiplicative, and lands in GT (R401). -/
def Obligations.FinalExpLaws : Prop :=
  let c := Config.params
  finalExp c (Fp12.one c) = Fp12.one c ∧
  (∀ f g, Fp12.Canonical c f → Fp12.Canonical c g →
    finalExp c (Fp12.mul c f g) = Fp12.mul c (finalExp c f) (finalExp c g)) ∧
  (∀ f, Fp12.Canonical c f → f ≠ Fp12.zero → Fp12.pow c (finalExp c f) c.n = Fp12.one c)

/-- The points of each curve form an abelian group under ⊕ and −, and [k]P is the k-fold sum, additive and
multiplicative in k (R311, R325, R341, R371, R382). -/
def Obligations.PointGroupLaws : Prop :=
  let c := Config.params
  GroupLaws (fpOps c) (fun P => Aff.All (Fp.Canonical c) P ∧ onCurve1 c P = true) ∧
  GroupLaws (fp2Ops c) (fun P => Aff.All (Fp2.Canonical c) P ∧ onTwist P = true)

/-- Multiples depend on the scalar modulo n: on G1, whose curve has n points (R14), and on the points of the
twist that pass the validity predicate of G2 (R371, R382). -/
def Obligations.MultiplesModOrder : Prop :=
  let c := Config.params
  (∀ (P : Aff MontWord) (k : Nat), Aff.All (Fp.Canonical c) P → onCurve1 c P = true →
    Aff.smul (fpOps c) c.n P = .inf ∧ Aff.smul (fpOps c) k P = Aff.smul (fpOps c) (k % c.n) P) ∧
  (∀ (P : Aff Fp2) (k : Nat), Aff.All (Fp2.Canonical c) P → onCurve2 c P = true →
    Aff.smul (fp2Ops c) k P = Aff.smul (fp2Ops c) (k % c.n) P)

/-- Other ways to compute the same words: Montgomery reduction with the constant PPRIME (R12, R162, with the
reference of 93_implementation_defined G2), the conversions as products with R2 and with 1 (R164), and the
three-multiplication form (R202). -/
def Obligations.MultiplierForms : Prop :=
  let c := Config.params
  (∀ (a b : MontWord) (pPrime : Nat), Fp.Canonical c a → Fp.Canonical c b →
    pPrime < 2 ^ 256 → (c.p * pPrime + 1) % 2 ^ 256 = 0 →
    let big := a.toNat * b.toNat
    let m := big % 2 ^ 256 * pPrime % 2 ^ 256
    let t := (big + m * c.p) / 2 ^ 256
    (Fp.mul c a b).toNat = if c.p ≤ t then t - c.p else t) ∧
  (c.pPrime < 2 ^ 256 ∧ (c.p * c.pPrime + 1) % 2 ^ 256 = 0) ∧
  (∀ v, v < c.p → Fp.enc c v = Fp.mul c (BitVec.ofNat 256 v) (Fp.r2 c)) ∧
  (∀ a : MontWord, Fp.val c a = (Fp.mul c a 1).toNat) ∧
  (∀ a b : Fp2, Fp2.Canonical c a → Fp2.Canonical c b →
    let t := Fp.mul c (Fp.add c a.x a.y) (Fp.add c b.x b.y)
    let u := Fp.mul c a.x b.x
    let v := Fp.mul c a.y b.y
    Fp2.mul c a b = ⟨Fp.sub c (Fp.sub c t u) v, Fp.sub c v u⟩)

/-- The codecs of points: unmarshalling the bytes that MARSHAL has just written gives a register with the same
affine image, as (x, y, 1, 1) or as the convention for infinity; marshalling what UNMARSHAL has accepted
writes the bytes it read, where their limbs are below p (R437). -/
def Obligations.PointRoundTrips : Prop :=
  let c := Config.params
  let window := fun (t : State) (start len : Nat) =>
    { t with bptr := BitVec.ofNat 32 start, blen := BitVec.ofNat 32 len }
  let limbsBelow := fun (bytes : List Byte) (m : Nat) =>
    ∀ j, j < m → beNat ((bytes.drop (32 * j)).take 32) < c.p
  (∀ (ra rd : Field6) (s t : State) (j : Jac MontWord), Ready (.g1Marshal ra) s → rd.toNat < 16 →
    readReg s.g1 ra = some j → Jac.All (Fp.Canonical c) j → onCurve1 c (affineOf (fpOps c) j) = true →
    windowEnd s + 64 ≤ Config.bufBytes → exec (.g1Marshal ra) s = .next t →
    ∃ u j', exec (.g1Unmarshal rd) (window t (windowEnd s) 64) = .next u ∧ u.err = 0 ∧ u.blen = 0 ∧
      readReg u.g1 rd = some j' ∧ affineOf (fpOps c) j' = affineOf (fpOps c) j ∧
      (j.z = 0 → j' = ⟨0, Fp.one c, 0, 0⟩) ∧
      (∀ x y, affineOf (fpOps c) j = .pt x y → j' = ⟨x, y, Fp.one c, Fp.one c⟩)) ∧
  (∀ (rd : Field6) (s t : State) (bytes : List Byte) (start : Nat), Ready (.g1Unmarshal rd) s →
    windowEnd s ≤ Config.bufBytes → 64 ≤ s.blen.toNat →
    memReadRange s.dbuf s.bptr.toNat 64 = some bytes → limbsBelow bytes 2 →
    exec (.g1Unmarshal rd) s = .next t → t.err = 0 → start + 64 ≤ Config.bufBytes →
    ∃ u, exec (.g1Marshal rd) (window t start 0) = .next u ∧
      memReadRange u.dbuf start 64 = some bytes) ∧
  (∀ (ra rd : Field6) (s t : State) (j : Jac Fp2), Ready (.g2Marshal ra) s → rd.toNat < 16 →
    readReg s.g2 ra = some j → Jac.All (Fp2.Canonical c) j → onCurve2 c (affineOf (fp2Ops c) j) = true →
    windowEnd s + 128 ≤ Config.bufBytes → exec (.g2Marshal ra) s = .next t →
    ∃ u j', exec (.g2Unmarshal rd) (window t (windowEnd s) 128) = .next u ∧ u.err = 0 ∧ u.blen = 0 ∧
      readReg u.g2 rd = some j' ∧ affineOf (fp2Ops c) j' = affineOf (fp2Ops c) j ∧
      (j.z = ⟨0, 0⟩ → j' = ⟨⟨0, 0⟩, Fp2.one c, ⟨0, 0⟩, ⟨0, 0⟩⟩) ∧
      (∀ x y, affineOf (fp2Ops c) j = .pt x y → j' = ⟨x, y, Fp2.one c, Fp2.one c⟩)) ∧
  (∀ (rd : Field6) (s t : State) (bytes : List Byte) (start : Nat), Ready (.g2Unmarshal rd) s →
    windowEnd s ≤ Config.bufBytes → 128 ≤ s.blen.toNat →
    memReadRange s.dbuf s.bptr.toNat 128 = some bytes → limbsBelow bytes 4 →
    exec (.g2Unmarshal rd) s = .next t → t.err = 0 → start + 128 ≤ Config.bufBytes →
    ∃ u, exec (.g2Marshal rd) (window t start 0) = .next u ∧
      memReadRange u.dbuf start 128 = some bytes)

/-- The codecs of field elements and scalars: decoding the bytes just encoded restores the register, and
encoding what was decoded writes the bytes that were read, where their limbs are below p; for K.LD, where
they are 32 (R183, R220, R287, R385). -/
def Obligations.FieldRoundTrips : Prop :=
  let c := Config.params
  let window := fun (t : State) (start len : Nat) =>
    { t with bptr := BitVec.ofNat 32 start, blen := BitVec.ofNat 32 len }
  let limbsBelow := fun (bytes : List Byte) (m : Nat) =>
    ∀ j, j < m → beNat ((bytes.drop (32 * j)).take 32) < c.p
  (∀ (ra rd : Field6) (s t : State) (a : MontWord), Ready (.fpEnc ra) s → rd.toNat < 16 →
    readReg s.fp ra = some a → Fp.Canonical c a → windowEnd s + 32 ≤ Config.bufBytes →
    exec (.fpEnc ra) s = .next t →
    ∃ u, exec (.fpDec rd) (window t (windowEnd s) 32) = .next u ∧ u.err = 0 ∧
      readReg u.fp rd = some a) ∧
  (∀ (ra rd : Field6) (s t : State) (a : Fp2), Ready (.fp2Enc ra) s → rd.toNat < 16 →
    readReg s.fp2 ra = some a → Fp2.Canonical c a → windowEnd s + 64 ≤ Config.bufBytes →
    exec (.fp2Enc ra) s = .next t →
    ∃ u, exec (.fp2Dec rd) (window t (windowEnd s) 64) = .next u ∧ u.err = 0 ∧
      readReg u.fp2 rd = some a) ∧
  (∀ (ra rd : Field6) (s t : State) (a : Fp12), Ready (.fp12Enc ra) s → rd.toNat < 16 →
    readReg s.fp12 ra = some a → Fp12.Canonical c a → windowEnd s + 384 ≤ Config.bufBytes →
    exec (.fp12Enc ra) s = .next t →
    ∃ u, exec (.fp12Dec rd) (window t (windowEnd s) 384) = .next u ∧ u.err = 0 ∧
      readReg u.fp12 rd = some a) ∧
  (∀ (ra rd : Field6) (s t : State) (a : Nat), Ready (.kSt ra) s → rd.toNat < 16 →
    readReg s.k ra = some a → a < 2 ^ 256 → windowEnd s + 32 ≤ Config.bufBytes →
    exec (.kSt ra) s = .next t →
    ∃ u, exec (.kLd rd) (window t (windowEnd s) 32) = .next u ∧ u.err = 0 ∧
      readReg u.k rd = some a) ∧
  (∀ (rd : Field6) (s t : State) (bytes : List Byte) (start : Nat), Ready (.fpDec rd) s →
    windowEnd s ≤ Config.bufBytes → 32 ≤ s.blen.toNat →
    memReadRange s.dbuf s.bptr.toNat 32 = some bytes → limbsBelow bytes 1 →
    exec (.fpDec rd) s = .next t → start + 32 ≤ Config.bufBytes →
    ∃ u, exec (.fpEnc rd) (window t start 0) = .next u ∧ memReadRange u.dbuf start 32 = some bytes) ∧
  (∀ (rd : Field6) (s t : State) (bytes : List Byte) (start : Nat), Ready (.fp2Dec rd) s →
    windowEnd s ≤ Config.bufBytes → 64 ≤ s.blen.toNat →
    memReadRange s.dbuf s.bptr.toNat 64 = some bytes → limbsBelow bytes 2 →
    exec (.fp2Dec rd) s = .next t → start + 64 ≤ Config.bufBytes →
    ∃ u, exec (.fp2Enc rd) (window t start 0) = .next u ∧ memReadRange u.dbuf start 64 = some bytes) ∧
  (∀ (rd : Field6) (s t : State) (bytes : List Byte) (start : Nat), Ready (.fp12Dec rd) s →
    windowEnd s ≤ Config.bufBytes → 384 ≤ s.blen.toNat →
    memReadRange s.dbuf s.bptr.toNat 384 = some bytes → limbsBelow bytes 12 →
    exec (.fp12Dec rd) s = .next t → start + 384 ≤ Config.bufBytes →
    ∃ u, exec (.fp12Enc rd) (window t start 0) = .next u ∧ memReadRange u.dbuf start 384 = some bytes) ∧
  (∀ (rd : Field6) (s t : State) (bytes : List Byte) (start : Nat), Ready (.kLd rd) s →
    windowEnd s ≤ Config.bufBytes → s.blen.toNat = 32 →
    memReadRange s.dbuf s.bptr.toNat 32 = some bytes →
    exec (.kLd rd) s = .next t → start + 32 ≤ Config.bufBytes →
    ∃ u, exec (.kSt rd) (window t start 0) = .next u ∧ memReadRange u.dbuf start 32 = some bytes)

end
end

