-- ==== Sys2Proof/Laws/Memory.lean ====
section
/-!
SUPPORT. The memory operations: reading after writing, what a write leaves alone, and the canonical form.
-/

namespace Sys2Proof.Machine

/-! ### One byte -/

theorem memRead_memWrite (m : List Host.Cell) (a j : Nat) (b : Byte) :
    memRead (memWrite m a b) j = if a = j then some b else memRead m j := by
  induction m with
  | nil => simp [memWrite, memRead]
  | cons c m ih =>
    obtain ⟨k, v⟩ := c
    unfold memWrite
    split
    · simp only [memRead]
    · split
      · subst_vars
        simp only [memRead]
        split <;> rfl
      · simp only [memRead, ih]
        split <;> split <;> first | rfl | omega

theorem memRead_memWrite_same (m : List Host.Cell) (a : Nat) (b : Byte) :
    memRead (memWrite m a b) a = some b := by
  simp [memRead_memWrite]

theorem memRead_memWrite_other (m : List Host.Cell) {a j : Nat} (b : Byte) (h : a ≠ j) :
    memRead (memWrite m a b) j = memRead m j := by
  simp [memRead_memWrite, h]

/-! ### Several bytes -/

theorem memRead_memWriteRange_other (bs : List Byte) :
    ∀ (m : List Host.Cell) (a j : Nat), (j < a ∨ a + bs.length ≤ j) →
      memRead (memWriteRange m a bs) j = memRead m j := by
  induction bs with
  | nil => intro m a j _; rfl
  | cons b bs ih =>
    intro m a j h
    rw [memWriteRange, ih _ _ _ (by simp at h; omega), memRead_memWrite_other _ _ (by simp at h; omega)]

theorem memRead_memWriteRange_same (bs : List Byte) :
    ∀ (m : List Host.Cell) (a i : Nat) (h : i < bs.length),
      memRead (memWriteRange m a bs) (a + i) = some bs[i] := by
  induction bs with
  | nil => intro m a i h; simp at h
  | cons b bs ih =>
    intro m a i h
    cases i with
    | zero =>
      rw [memWriteRange, memRead_memWriteRange_other _ _ _ _ (by omega)]
      simp [memRead_memWrite]
    | succ i =>
      rw [memWriteRange, show a + (i + 1) = a + 1 + i by omega]
      exact ih _ _ _ _

theorem memReadRange_length {m : List Host.Cell} :
    ∀ {n a : Nat} {bs : List Byte}, memReadRange m a n = some bs → bs.length = n := by
  intro n
  induction n with
  | zero => intro a bs h; simp [memReadRange] at h; simp [← h]
  | succ n ih =>
    intro a bs h
    unfold memReadRange at h
    split at h
    · rename_i e; cases h; simp [ih e]
    · cases h

theorem memReadRange_congr {m m' : List Host.Cell} :
    ∀ (n a : Nat), (∀ j, a ≤ j → j < a + n → memRead m j = memRead m' j) →
      memReadRange m a n = memReadRange m' a n := by
  intro n
  induction n with
  | zero => intros; rfl
  | succ n ih =>
    intro a h
    rw [memReadRange, memReadRange, h a (by omega) (by omega),
      ih (a + 1) fun j h1 h2 => h j (by omega) (by omega)]

theorem memReadRange_memWriteRange (bs : List Byte) :
    ∀ (m : List Host.Cell) (a : Nat), memReadRange (memWriteRange m a bs) a bs.length = some bs := by
  induction bs with
  | nil => intros; rfl
  | cons b bs ih =>
    intro m a
    have h0 := memRead_memWriteRange_same (b :: bs) m a 0 (by simp)
    simp only [Nat.add_zero, List.getElem_cons_zero] at h0
    rw [List.length_cons, memReadRange, h0, memWriteRange, ih]

/-! ### The canonical form -/

theorem memRising_mono {m : List Host.Cell} {a b : Nat} (h : memRising b m = true) (hab : a ≤ b) :
    memRising a m = true := by
  cases m with
  | nil => rfl
  | cons c m =>
    simp only [memRising, Bool.and_eq_true, decide_eq_true_eq] at *
    exact ⟨by omega, h.2⟩

theorem memRising_memWrite :
    ∀ {m : List Host.Cell} {l a : Nat} (b : Byte), memRising l m = true → l ≤ a →
      memRising l (memWrite m a b) = true := by
  intro m
  induction m with
  | nil => intro l a b _ h; simp [memWrite, memRising, h]
  | cons c m ih =>
    intro l a b hm hl
    obtain ⟨k, v⟩ := c
    simp only [memRising, Bool.and_eq_true, decide_eq_true_eq] at hm
    unfold memWrite
    split
    · simp only [memRising, Bool.and_eq_true, decide_eq_true_eq]
      exact ⟨hl, by omega, hm.2⟩
    · split
      · subst_vars
        simp only [memRising, Bool.and_eq_true, decide_eq_true_eq]
        exact hm
      · simp only [memRising, Bool.and_eq_true, decide_eq_true_eq]
        exact ⟨hm.1, ih b hm.2 (by omega)⟩

/-- A write keeps the canonical form. -/
theorem memWrite_wf {m : List Host.Cell} (a : Nat) (b : Byte) (h : Memory.wf m = true) :
    Memory.wf (memWrite m a b) = true :=
  memRising_memWrite b h (Nat.zero_le a)

/-- A range write keeps the canonical form. -/
theorem memWriteRange_wf (bs : List Byte) :
    ∀ {m : List Host.Cell} (a : Nat), Memory.wf m = true →
      Memory.wf (memWriteRange m a bs) = true := by
  induction bs with
  | nil => intro m a h; exact h
  | cons b bs ih => intro m a h; exact ih _ (memWrite_wf a b h)

/-- The memory after reset is in the canonical form. -/
theorem reset_memory_wf : Memory.wf State.reset.dbuf = true := rfl

/-- An address below a memory's bound is not listed. -/
theorem memRead_lt {m : List Host.Cell} {l j : Nat} (h : memRising l m = true) (hj : j < l) :
    memRead m j = none := by
  induction m generalizing l with
  | nil => rfl
  | cons c m ih =>
    obtain ⟨k, v⟩ := c
    simp only [memRising, Bool.and_eq_true, decide_eq_true_eq] at h
    rw [memRead, if_neg (by omega), ih h.2 (by omega)]

/-- Two memories in the canonical form that read alike are equal. -/
theorem memory_ext :
    ∀ {m m' : List Host.Cell} {l : Nat}, memRising l m = true → memRising l m' = true →
      (∀ j, memRead m j = memRead m' j) → m = m' := by
  intro m
  induction m with
  | nil =>
    intro m' l _ _ h
    cases m' with
    | nil => rfl
    | cons c m' => have := h c.1; simp [memRead] at this
  | cons c m ih =>
    intro m' l hm hm' h
    cases m' with
    | nil => have := h c.1; simp [memRead] at this
    | cons d m' =>
      obtain ⟨k, v⟩ := c
      obtain ⟨k', v'⟩ := d
      simp only [memRising, Bool.and_eq_true, decide_eq_true_eq] at hm hm'
      have hk : k = k' := by
        rcases Nat.lt_trichotomy k k' with hlt | heq | hgt
        · have := h k
          rw [memRead, memRead, if_pos rfl, if_neg (by omega), memRead_lt hm'.2 (by omega)] at this
          cases this
        · exact heq
        · have := h k'
          rw [memRead, memRead, if_pos rfl, if_neg (by omega), memRead_lt hm.2 (by omega)] at this
          cases this
      subst hk
      have hv := h k
      simp only [memRead, if_true, Option.some.injEq] at hv
      subst hv
      congr 1
      refine ih hm.2 hm'.2 fun j => ?_
      by_cases hj : k = j
      · subst hj
        rw [memRead_lt hm.2 (by omega), memRead_lt hm'.2 (by omega)]
      · have := h j
        simpa [memRead, hj] using this

end Sys2Proof.Machine
end

