-- ==== Sys2Proof/Laws/State.lean ====
section
/-!
SUPPORT. One lemma per field for each named update of the state, true by rfl, so that no later proof
unfolds a record update.
-/

namespace Sys2Proof.Machine

/-! ### setRes -/

@[simp] theorem setRes_fp (s : State) (b : Bool) :
    (setRes s b).fp = s.fp := rfl
@[simp] theorem setRes_fp2 (s : State) (b : Bool) :
    (setRes s b).fp2 = s.fp2 := rfl
@[simp] theorem setRes_fp6 (s : State) (b : Bool) :
    (setRes s b).fp6 = s.fp6 := rfl
@[simp] theorem setRes_fp12 (s : State) (b : Bool) :
    (setRes s b).fp12 = s.fp12 := rfl
@[simp] theorem setRes_g1 (s : State) (b : Bool) :
    (setRes s b).g1 = s.g1 := rfl
@[simp] theorem setRes_g2 (s : State) (b : Bool) :
    (setRes s b).g2 = s.g2 := rfl
@[simp] theorem setRes_k (s : State) (b : Bool) :
    (setRes s b).k = s.k := rfl
@[simp] theorem setRes_res (s : State) (b : Bool) :
    (setRes s b).res = b := rfl
@[simp] theorem setRes_err (s : State) (b : Bool) :
    (setRes s b).err = s.err := rfl
@[simp] theorem setRes_fault (s : State) (b : Bool) :
    (setRes s b).fault = s.fault := rfl
@[simp] theorem setRes_finfo (s : State) (b : Bool) :
    (setRes s b).finfo = s.finfo := rfl
@[simp] theorem setRes_bptr (s : State) (b : Bool) :
    (setRes s b).bptr = s.bptr := rfl
@[simp] theorem setRes_blen (s : State) (b : Bool) :
    (setRes s b).blen = s.blen := rfl
@[simp] theorem setRes_lena (s : State) (b : Bool) :
    (setRes s b).lena = s.lena := rfl
@[simp] theorem setRes_lenb (s : State) (b : Bool) :
    (setRes s b).lenb = s.lenb := rfl
@[simp] theorem setRes_dbuf (s : State) (b : Bool) :
    (setRes s b).dbuf = s.dbuf := rfl
@[simp] theorem setRes_host (s : State) (b : Bool) :
    (setRes s b).host = s.host := rfl
@[simp] theorem setRes_hostData (s : State) (b : Bool) :
    (setRes s b).hostData = s.hostData := rfl
@[simp] theorem setRes_entropy (s : State) (b : Bool) :
    (setRes s b).entropy = s.entropy := rfl
@[simp] theorem setRes_draws (s : State) (b : Bool) :
    (setRes s b).draws = s.draws := rfl

/-! ### succeed -/

@[simp] theorem succeed_fp (s : State) :
    (succeed s).fp = s.fp := rfl
@[simp] theorem succeed_fp2 (s : State) :
    (succeed s).fp2 = s.fp2 := rfl
@[simp] theorem succeed_fp6 (s : State) :
    (succeed s).fp6 = s.fp6 := rfl
@[simp] theorem succeed_fp12 (s : State) :
    (succeed s).fp12 = s.fp12 := rfl
@[simp] theorem succeed_g1 (s : State) :
    (succeed s).g1 = s.g1 := rfl
@[simp] theorem succeed_g2 (s : State) :
    (succeed s).g2 = s.g2 := rfl
@[simp] theorem succeed_k (s : State) :
    (succeed s).k = s.k := rfl
@[simp] theorem succeed_res (s : State) :
    (succeed s).res = s.res := rfl
@[simp] theorem succeed_err (s : State) :
    (succeed s).err = 0 := rfl
@[simp] theorem succeed_fault (s : State) :
    (succeed s).fault = s.fault := rfl
@[simp] theorem succeed_finfo (s : State) :
    (succeed s).finfo = s.finfo := rfl
@[simp] theorem succeed_bptr (s : State) :
    (succeed s).bptr = s.bptr := rfl
@[simp] theorem succeed_blen (s : State) :
    (succeed s).blen = s.blen := rfl
@[simp] theorem succeed_lena (s : State) :
    (succeed s).lena = s.lena := rfl
@[simp] theorem succeed_lenb (s : State) :
    (succeed s).lenb = s.lenb := rfl
@[simp] theorem succeed_dbuf (s : State) :
    (succeed s).dbuf = s.dbuf := rfl
@[simp] theorem succeed_host (s : State) :
    (succeed s).host = s.host := rfl
@[simp] theorem succeed_hostData (s : State) :
    (succeed s).hostData = s.hostData := rfl
@[simp] theorem succeed_entropy (s : State) :
    (succeed s).entropy = s.entropy := rfl
@[simp] theorem succeed_draws (s : State) :
    (succeed s).draws = s.draws := rfl

/-! ### takeFault -/

@[simp] theorem takeFault_fp (c : FaultKind) (w : Word32) (s : State) :
    (takeFault c w s).fp = s.fp := rfl
@[simp] theorem takeFault_fp2 (c : FaultKind) (w : Word32) (s : State) :
    (takeFault c w s).fp2 = s.fp2 := rfl
@[simp] theorem takeFault_fp6 (c : FaultKind) (w : Word32) (s : State) :
    (takeFault c w s).fp6 = s.fp6 := rfl
@[simp] theorem takeFault_fp12 (c : FaultKind) (w : Word32) (s : State) :
    (takeFault c w s).fp12 = s.fp12 := rfl
@[simp] theorem takeFault_g1 (c : FaultKind) (w : Word32) (s : State) :
    (takeFault c w s).g1 = s.g1 := rfl
@[simp] theorem takeFault_g2 (c : FaultKind) (w : Word32) (s : State) :
    (takeFault c w s).g2 = s.g2 := rfl
@[simp] theorem takeFault_k (c : FaultKind) (w : Word32) (s : State) :
    (takeFault c w s).k = s.k := rfl
@[simp] theorem takeFault_res (c : FaultKind) (w : Word32) (s : State) :
    (takeFault c w s).res = s.res := rfl
@[simp] theorem takeFault_err (c : FaultKind) (w : Word32) (s : State) :
    (takeFault c w s).err = s.err := rfl
@[simp] theorem takeFault_fault (c : FaultKind) (w : Word32) (s : State) :
    (takeFault c w s).fault = faultNumber c := rfl
@[simp] theorem takeFault_finfo (c : FaultKind) (w : Word32) (s : State) :
    (takeFault c w s).finfo = w := rfl
@[simp] theorem takeFault_bptr (c : FaultKind) (w : Word32) (s : State) :
    (takeFault c w s).bptr = s.bptr := rfl
@[simp] theorem takeFault_blen (c : FaultKind) (w : Word32) (s : State) :
    (takeFault c w s).blen = s.blen := rfl
@[simp] theorem takeFault_lena (c : FaultKind) (w : Word32) (s : State) :
    (takeFault c w s).lena = s.lena := rfl
@[simp] theorem takeFault_lenb (c : FaultKind) (w : Word32) (s : State) :
    (takeFault c w s).lenb = s.lenb := rfl
@[simp] theorem takeFault_dbuf (c : FaultKind) (w : Word32) (s : State) :
    (takeFault c w s).dbuf = s.dbuf := rfl
@[simp] theorem takeFault_host (c : FaultKind) (w : Word32) (s : State) :
    (takeFault c w s).host = s.host := rfl
@[simp] theorem takeFault_hostData (c : FaultKind) (w : Word32) (s : State) :
    (takeFault c w s).hostData = s.hostData := rfl
@[simp] theorem takeFault_entropy (c : FaultKind) (w : Word32) (s : State) :
    (takeFault c w s).entropy = s.entropy := rfl
@[simp] theorem takeFault_draws (c : FaultKind) (w : Word32) (s : State) :
    (takeFault c w s).draws = s.draws := rfl

/-! ### takeError -/

@[simp] theorem takeError_fp (e : ErrorKind) (s : State) :
    (takeError e s).fp = s.fp := rfl
@[simp] theorem takeError_fp2 (e : ErrorKind) (s : State) :
    (takeError e s).fp2 = s.fp2 := rfl
@[simp] theorem takeError_fp6 (e : ErrorKind) (s : State) :
    (takeError e s).fp6 = s.fp6 := rfl
@[simp] theorem takeError_fp12 (e : ErrorKind) (s : State) :
    (takeError e s).fp12 = s.fp12 := rfl
@[simp] theorem takeError_g1 (e : ErrorKind) (s : State) :
    (takeError e s).g1 = s.g1 := rfl
@[simp] theorem takeError_g2 (e : ErrorKind) (s : State) :
    (takeError e s).g2 = s.g2 := rfl
@[simp] theorem takeError_k (e : ErrorKind) (s : State) :
    (takeError e s).k = s.k := rfl
@[simp] theorem takeError_res (e : ErrorKind) (s : State) :
    (takeError e s).res = s.res := rfl
@[simp] theorem takeError_err (e : ErrorKind) (s : State) :
    (takeError e s).err = errorNumber e := rfl
@[simp] theorem takeError_fault (e : ErrorKind) (s : State) :
    (takeError e s).fault = s.fault := rfl
@[simp] theorem takeError_finfo (e : ErrorKind) (s : State) :
    (takeError e s).finfo = s.finfo := rfl
@[simp] theorem takeError_bptr (e : ErrorKind) (s : State) :
    (takeError e s).bptr = s.bptr := rfl
@[simp] theorem takeError_blen (e : ErrorKind) (s : State) :
    (takeError e s).blen = s.blen := rfl
@[simp] theorem takeError_lena (e : ErrorKind) (s : State) :
    (takeError e s).lena = s.lena := rfl
@[simp] theorem takeError_lenb (e : ErrorKind) (s : State) :
    (takeError e s).lenb = s.lenb := rfl
@[simp] theorem takeError_dbuf (e : ErrorKind) (s : State) :
    (takeError e s).dbuf = s.dbuf := rfl
@[simp] theorem takeError_host (e : ErrorKind) (s : State) :
    (takeError e s).host = s.host := rfl
@[simp] theorem takeError_hostData (e : ErrorKind) (s : State) :
    (takeError e s).hostData = s.hostData := rfl
@[simp] theorem takeError_entropy (e : ErrorKind) (s : State) :
    (takeError e s).entropy = s.entropy := rfl
@[simp] theorem takeError_draws (e : ErrorKind) (s : State) :
    (takeError e s).draws = s.draws := rfl

/-! ### consume -/

@[simp] theorem consume_fp (len : Nat) (s : State) :
    (consume len s).fp = s.fp := rfl
@[simp] theorem consume_fp2 (len : Nat) (s : State) :
    (consume len s).fp2 = s.fp2 := rfl
@[simp] theorem consume_fp6 (len : Nat) (s : State) :
    (consume len s).fp6 = s.fp6 := rfl
@[simp] theorem consume_fp12 (len : Nat) (s : State) :
    (consume len s).fp12 = s.fp12 := rfl
@[simp] theorem consume_g1 (len : Nat) (s : State) :
    (consume len s).g1 = s.g1 := rfl
@[simp] theorem consume_g2 (len : Nat) (s : State) :
    (consume len s).g2 = s.g2 := rfl
@[simp] theorem consume_k (len : Nat) (s : State) :
    (consume len s).k = s.k := rfl
@[simp] theorem consume_res (len : Nat) (s : State) :
    (consume len s).res = s.res := rfl
@[simp] theorem consume_err (len : Nat) (s : State) :
    (consume len s).err = s.err := rfl
@[simp] theorem consume_fault (len : Nat) (s : State) :
    (consume len s).fault = s.fault := rfl
@[simp] theorem consume_finfo (len : Nat) (s : State) :
    (consume len s).finfo = s.finfo := rfl
@[simp] theorem consume_bptr (len : Nat) (s : State) :
    (consume len s).bptr = s.bptr + BitVec.ofNat 32 len := rfl
@[simp] theorem consume_blen (len : Nat) (s : State) :
    (consume len s).blen = s.blen - BitVec.ofNat 32 len := rfl
@[simp] theorem consume_lena (len : Nat) (s : State) :
    (consume len s).lena = s.lena := rfl
@[simp] theorem consume_lenb (len : Nat) (s : State) :
    (consume len s).lenb = s.lenb := rfl
@[simp] theorem consume_dbuf (len : Nat) (s : State) :
    (consume len s).dbuf = s.dbuf := rfl
@[simp] theorem consume_host (len : Nat) (s : State) :
    (consume len s).host = s.host := rfl
@[simp] theorem consume_hostData (len : Nat) (s : State) :
    (consume len s).hostData = s.hostData := rfl
@[simp] theorem consume_entropy (len : Nat) (s : State) :
    (consume len s).entropy = s.entropy := rfl
@[simp] theorem consume_draws (len : Nat) (s : State) :
    (consume len s).draws = s.draws := rfl

/-! ### append -/

@[simp] theorem append_fp (bytes : List Byte) (s : State) :
    (append bytes s).fp = s.fp := rfl
@[simp] theorem append_fp2 (bytes : List Byte) (s : State) :
    (append bytes s).fp2 = s.fp2 := rfl
@[simp] theorem append_fp6 (bytes : List Byte) (s : State) :
    (append bytes s).fp6 = s.fp6 := rfl
@[simp] theorem append_fp12 (bytes : List Byte) (s : State) :
    (append bytes s).fp12 = s.fp12 := rfl
@[simp] theorem append_g1 (bytes : List Byte) (s : State) :
    (append bytes s).g1 = s.g1 := rfl
@[simp] theorem append_g2 (bytes : List Byte) (s : State) :
    (append bytes s).g2 = s.g2 := rfl
@[simp] theorem append_k (bytes : List Byte) (s : State) :
    (append bytes s).k = s.k := rfl
@[simp] theorem append_res (bytes : List Byte) (s : State) :
    (append bytes s).res = s.res := rfl
@[simp] theorem append_err (bytes : List Byte) (s : State) :
    (append bytes s).err = s.err := rfl
@[simp] theorem append_fault (bytes : List Byte) (s : State) :
    (append bytes s).fault = s.fault := rfl
@[simp] theorem append_finfo (bytes : List Byte) (s : State) :
    (append bytes s).finfo = s.finfo := rfl
@[simp] theorem append_bptr (bytes : List Byte) (s : State) :
    (append bytes s).bptr = s.bptr := rfl
@[simp] theorem append_blen (bytes : List Byte) (s : State) :
    (append bytes s).blen = s.blen + BitVec.ofNat 32 bytes.length := rfl
@[simp] theorem append_lena (bytes : List Byte) (s : State) :
    (append bytes s).lena = s.lena := rfl
@[simp] theorem append_lenb (bytes : List Byte) (s : State) :
    (append bytes s).lenb = s.lenb := rfl
@[simp] theorem append_dbuf (bytes : List Byte) (s : State) :
    (append bytes s).dbuf = memWriteRange s.dbuf (windowEnd s) bytes := rfl
@[simp] theorem append_host (bytes : List Byte) (s : State) :
    (append bytes s).host = s.host := rfl
@[simp] theorem append_hostData (bytes : List Byte) (s : State) :
    (append bytes s).hostData = s.hostData := rfl
@[simp] theorem append_entropy (bytes : List Byte) (s : State) :
    (append bytes s).entropy = s.entropy := rfl
@[simp] theorem append_draws (bytes : List Byte) (s : State) :
    (append bytes s).draws = s.draws := rfl

/-- Reading file `fp`. -/
@[simp] theorem fpFile_read (s : State) (f : Field6) : fpFile.read s f = readReg s.fp f := rfl

/-! ### fpFile_write -/

@[simp] theorem fpFile_write_fp (s : State) (f : Field6) (x : MontWord) :
    (fpFile.write s f x).fp = writeReg s.fp f x := rfl
@[simp] theorem fpFile_write_fp2 (s : State) (f : Field6) (x : MontWord) :
    (fpFile.write s f x).fp2 = s.fp2 := rfl
@[simp] theorem fpFile_write_fp6 (s : State) (f : Field6) (x : MontWord) :
    (fpFile.write s f x).fp6 = s.fp6 := rfl
@[simp] theorem fpFile_write_fp12 (s : State) (f : Field6) (x : MontWord) :
    (fpFile.write s f x).fp12 = s.fp12 := rfl
@[simp] theorem fpFile_write_g1 (s : State) (f : Field6) (x : MontWord) :
    (fpFile.write s f x).g1 = s.g1 := rfl
@[simp] theorem fpFile_write_g2 (s : State) (f : Field6) (x : MontWord) :
    (fpFile.write s f x).g2 = s.g2 := rfl
@[simp] theorem fpFile_write_k (s : State) (f : Field6) (x : MontWord) :
    (fpFile.write s f x).k = s.k := rfl
@[simp] theorem fpFile_write_res (s : State) (f : Field6) (x : MontWord) :
    (fpFile.write s f x).res = s.res := rfl
@[simp] theorem fpFile_write_err (s : State) (f : Field6) (x : MontWord) :
    (fpFile.write s f x).err = s.err := rfl
@[simp] theorem fpFile_write_fault (s : State) (f : Field6) (x : MontWord) :
    (fpFile.write s f x).fault = s.fault := rfl
@[simp] theorem fpFile_write_finfo (s : State) (f : Field6) (x : MontWord) :
    (fpFile.write s f x).finfo = s.finfo := rfl
@[simp] theorem fpFile_write_bptr (s : State) (f : Field6) (x : MontWord) :
    (fpFile.write s f x).bptr = s.bptr := rfl
@[simp] theorem fpFile_write_blen (s : State) (f : Field6) (x : MontWord) :
    (fpFile.write s f x).blen = s.blen := rfl
@[simp] theorem fpFile_write_lena (s : State) (f : Field6) (x : MontWord) :
    (fpFile.write s f x).lena = s.lena := rfl
@[simp] theorem fpFile_write_lenb (s : State) (f : Field6) (x : MontWord) :
    (fpFile.write s f x).lenb = s.lenb := rfl
@[simp] theorem fpFile_write_dbuf (s : State) (f : Field6) (x : MontWord) :
    (fpFile.write s f x).dbuf = s.dbuf := rfl
@[simp] theorem fpFile_write_host (s : State) (f : Field6) (x : MontWord) :
    (fpFile.write s f x).host = s.host := rfl
@[simp] theorem fpFile_write_hostData (s : State) (f : Field6) (x : MontWord) :
    (fpFile.write s f x).hostData = s.hostData := rfl
@[simp] theorem fpFile_write_entropy (s : State) (f : Field6) (x : MontWord) :
    (fpFile.write s f x).entropy = s.entropy := rfl
@[simp] theorem fpFile_write_draws (s : State) (f : Field6) (x : MontWord) :
    (fpFile.write s f x).draws = s.draws := rfl

/-- Reading file `fp2`. -/
@[simp] theorem fp2File_read (s : State) (f : Field6) : fp2File.read s f = readReg s.fp2 f := rfl

/-! ### fp2File_write -/

@[simp] theorem fp2File_write_fp (s : State) (f : Field6) (x : Fp2) :
    (fp2File.write s f x).fp = s.fp := rfl
@[simp] theorem fp2File_write_fp2 (s : State) (f : Field6) (x : Fp2) :
    (fp2File.write s f x).fp2 = writeReg s.fp2 f x := rfl
@[simp] theorem fp2File_write_fp6 (s : State) (f : Field6) (x : Fp2) :
    (fp2File.write s f x).fp6 = s.fp6 := rfl
@[simp] theorem fp2File_write_fp12 (s : State) (f : Field6) (x : Fp2) :
    (fp2File.write s f x).fp12 = s.fp12 := rfl
@[simp] theorem fp2File_write_g1 (s : State) (f : Field6) (x : Fp2) :
    (fp2File.write s f x).g1 = s.g1 := rfl
@[simp] theorem fp2File_write_g2 (s : State) (f : Field6) (x : Fp2) :
    (fp2File.write s f x).g2 = s.g2 := rfl
@[simp] theorem fp2File_write_k (s : State) (f : Field6) (x : Fp2) :
    (fp2File.write s f x).k = s.k := rfl
@[simp] theorem fp2File_write_res (s : State) (f : Field6) (x : Fp2) :
    (fp2File.write s f x).res = s.res := rfl
@[simp] theorem fp2File_write_err (s : State) (f : Field6) (x : Fp2) :
    (fp2File.write s f x).err = s.err := rfl
@[simp] theorem fp2File_write_fault (s : State) (f : Field6) (x : Fp2) :
    (fp2File.write s f x).fault = s.fault := rfl
@[simp] theorem fp2File_write_finfo (s : State) (f : Field6) (x : Fp2) :
    (fp2File.write s f x).finfo = s.finfo := rfl
@[simp] theorem fp2File_write_bptr (s : State) (f : Field6) (x : Fp2) :
    (fp2File.write s f x).bptr = s.bptr := rfl
@[simp] theorem fp2File_write_blen (s : State) (f : Field6) (x : Fp2) :
    (fp2File.write s f x).blen = s.blen := rfl
@[simp] theorem fp2File_write_lena (s : State) (f : Field6) (x : Fp2) :
    (fp2File.write s f x).lena = s.lena := rfl
@[simp] theorem fp2File_write_lenb (s : State) (f : Field6) (x : Fp2) :
    (fp2File.write s f x).lenb = s.lenb := rfl
@[simp] theorem fp2File_write_dbuf (s : State) (f : Field6) (x : Fp2) :
    (fp2File.write s f x).dbuf = s.dbuf := rfl
@[simp] theorem fp2File_write_host (s : State) (f : Field6) (x : Fp2) :
    (fp2File.write s f x).host = s.host := rfl
@[simp] theorem fp2File_write_hostData (s : State) (f : Field6) (x : Fp2) :
    (fp2File.write s f x).hostData = s.hostData := rfl
@[simp] theorem fp2File_write_entropy (s : State) (f : Field6) (x : Fp2) :
    (fp2File.write s f x).entropy = s.entropy := rfl
@[simp] theorem fp2File_write_draws (s : State) (f : Field6) (x : Fp2) :
    (fp2File.write s f x).draws = s.draws := rfl

/-- Reading file `fp6`. -/
@[simp] theorem fp6File_read (s : State) (f : Field6) : fp6File.read s f = readReg s.fp6 f := rfl

/-! ### fp6File_write -/

@[simp] theorem fp6File_write_fp (s : State) (f : Field6) (x : Fp6) :
    (fp6File.write s f x).fp = s.fp := rfl
@[simp] theorem fp6File_write_fp2 (s : State) (f : Field6) (x : Fp6) :
    (fp6File.write s f x).fp2 = s.fp2 := rfl
@[simp] theorem fp6File_write_fp6 (s : State) (f : Field6) (x : Fp6) :
    (fp6File.write s f x).fp6 = writeReg s.fp6 f x := rfl
@[simp] theorem fp6File_write_fp12 (s : State) (f : Field6) (x : Fp6) :
    (fp6File.write s f x).fp12 = s.fp12 := rfl
@[simp] theorem fp6File_write_g1 (s : State) (f : Field6) (x : Fp6) :
    (fp6File.write s f x).g1 = s.g1 := rfl
@[simp] theorem fp6File_write_g2 (s : State) (f : Field6) (x : Fp6) :
    (fp6File.write s f x).g2 = s.g2 := rfl
@[simp] theorem fp6File_write_k (s : State) (f : Field6) (x : Fp6) :
    (fp6File.write s f x).k = s.k := rfl
@[simp] theorem fp6File_write_res (s : State) (f : Field6) (x : Fp6) :
    (fp6File.write s f x).res = s.res := rfl
@[simp] theorem fp6File_write_err (s : State) (f : Field6) (x : Fp6) :
    (fp6File.write s f x).err = s.err := rfl
@[simp] theorem fp6File_write_fault (s : State) (f : Field6) (x : Fp6) :
    (fp6File.write s f x).fault = s.fault := rfl
@[simp] theorem fp6File_write_finfo (s : State) (f : Field6) (x : Fp6) :
    (fp6File.write s f x).finfo = s.finfo := rfl
@[simp] theorem fp6File_write_bptr (s : State) (f : Field6) (x : Fp6) :
    (fp6File.write s f x).bptr = s.bptr := rfl
@[simp] theorem fp6File_write_blen (s : State) (f : Field6) (x : Fp6) :
    (fp6File.write s f x).blen = s.blen := rfl
@[simp] theorem fp6File_write_lena (s : State) (f : Field6) (x : Fp6) :
    (fp6File.write s f x).lena = s.lena := rfl
@[simp] theorem fp6File_write_lenb (s : State) (f : Field6) (x : Fp6) :
    (fp6File.write s f x).lenb = s.lenb := rfl
@[simp] theorem fp6File_write_dbuf (s : State) (f : Field6) (x : Fp6) :
    (fp6File.write s f x).dbuf = s.dbuf := rfl
@[simp] theorem fp6File_write_host (s : State) (f : Field6) (x : Fp6) :
    (fp6File.write s f x).host = s.host := rfl
@[simp] theorem fp6File_write_hostData (s : State) (f : Field6) (x : Fp6) :
    (fp6File.write s f x).hostData = s.hostData := rfl
@[simp] theorem fp6File_write_entropy (s : State) (f : Field6) (x : Fp6) :
    (fp6File.write s f x).entropy = s.entropy := rfl
@[simp] theorem fp6File_write_draws (s : State) (f : Field6) (x : Fp6) :
    (fp6File.write s f x).draws = s.draws := rfl

/-- Reading file `fp12`. -/
@[simp] theorem fp12File_read (s : State) (f : Field6) : fp12File.read s f = readReg s.fp12 f := rfl

/-! ### fp12File_write -/

@[simp] theorem fp12File_write_fp (s : State) (f : Field6) (x : Fp12) :
    (fp12File.write s f x).fp = s.fp := rfl
@[simp] theorem fp12File_write_fp2 (s : State) (f : Field6) (x : Fp12) :
    (fp12File.write s f x).fp2 = s.fp2 := rfl
@[simp] theorem fp12File_write_fp6 (s : State) (f : Field6) (x : Fp12) :
    (fp12File.write s f x).fp6 = s.fp6 := rfl
@[simp] theorem fp12File_write_fp12 (s : State) (f : Field6) (x : Fp12) :
    (fp12File.write s f x).fp12 = writeReg s.fp12 f x := rfl
@[simp] theorem fp12File_write_g1 (s : State) (f : Field6) (x : Fp12) :
    (fp12File.write s f x).g1 = s.g1 := rfl
@[simp] theorem fp12File_write_g2 (s : State) (f : Field6) (x : Fp12) :
    (fp12File.write s f x).g2 = s.g2 := rfl
@[simp] theorem fp12File_write_k (s : State) (f : Field6) (x : Fp12) :
    (fp12File.write s f x).k = s.k := rfl
@[simp] theorem fp12File_write_res (s : State) (f : Field6) (x : Fp12) :
    (fp12File.write s f x).res = s.res := rfl
@[simp] theorem fp12File_write_err (s : State) (f : Field6) (x : Fp12) :
    (fp12File.write s f x).err = s.err := rfl
@[simp] theorem fp12File_write_fault (s : State) (f : Field6) (x : Fp12) :
    (fp12File.write s f x).fault = s.fault := rfl
@[simp] theorem fp12File_write_finfo (s : State) (f : Field6) (x : Fp12) :
    (fp12File.write s f x).finfo = s.finfo := rfl
@[simp] theorem fp12File_write_bptr (s : State) (f : Field6) (x : Fp12) :
    (fp12File.write s f x).bptr = s.bptr := rfl
@[simp] theorem fp12File_write_blen (s : State) (f : Field6) (x : Fp12) :
    (fp12File.write s f x).blen = s.blen := rfl
@[simp] theorem fp12File_write_lena (s : State) (f : Field6) (x : Fp12) :
    (fp12File.write s f x).lena = s.lena := rfl
@[simp] theorem fp12File_write_lenb (s : State) (f : Field6) (x : Fp12) :
    (fp12File.write s f x).lenb = s.lenb := rfl
@[simp] theorem fp12File_write_dbuf (s : State) (f : Field6) (x : Fp12) :
    (fp12File.write s f x).dbuf = s.dbuf := rfl
@[simp] theorem fp12File_write_host (s : State) (f : Field6) (x : Fp12) :
    (fp12File.write s f x).host = s.host := rfl
@[simp] theorem fp12File_write_hostData (s : State) (f : Field6) (x : Fp12) :
    (fp12File.write s f x).hostData = s.hostData := rfl
@[simp] theorem fp12File_write_entropy (s : State) (f : Field6) (x : Fp12) :
    (fp12File.write s f x).entropy = s.entropy := rfl
@[simp] theorem fp12File_write_draws (s : State) (f : Field6) (x : Fp12) :
    (fp12File.write s f x).draws = s.draws := rfl

/-- Reading file `g1`. -/
@[simp] theorem g1File_read (s : State) (f : Field6) : g1File.read s f = readReg s.g1 f := rfl

/-! ### g1File_write -/

@[simp] theorem g1File_write_fp (s : State) (f : Field6) (x : Jac MontWord) :
    (g1File.write s f x).fp = s.fp := rfl
@[simp] theorem g1File_write_fp2 (s : State) (f : Field6) (x : Jac MontWord) :
    (g1File.write s f x).fp2 = s.fp2 := rfl
@[simp] theorem g1File_write_fp6 (s : State) (f : Field6) (x : Jac MontWord) :
    (g1File.write s f x).fp6 = s.fp6 := rfl
@[simp] theorem g1File_write_fp12 (s : State) (f : Field6) (x : Jac MontWord) :
    (g1File.write s f x).fp12 = s.fp12 := rfl
@[simp] theorem g1File_write_g1 (s : State) (f : Field6) (x : Jac MontWord) :
    (g1File.write s f x).g1 = writeReg s.g1 f x := rfl
@[simp] theorem g1File_write_g2 (s : State) (f : Field6) (x : Jac MontWord) :
    (g1File.write s f x).g2 = s.g2 := rfl
@[simp] theorem g1File_write_k (s : State) (f : Field6) (x : Jac MontWord) :
    (g1File.write s f x).k = s.k := rfl
@[simp] theorem g1File_write_res (s : State) (f : Field6) (x : Jac MontWord) :
    (g1File.write s f x).res = s.res := rfl
@[simp] theorem g1File_write_err (s : State) (f : Field6) (x : Jac MontWord) :
    (g1File.write s f x).err = s.err := rfl
@[simp] theorem g1File_write_fault (s : State) (f : Field6) (x : Jac MontWord) :
    (g1File.write s f x).fault = s.fault := rfl
@[simp] theorem g1File_write_finfo (s : State) (f : Field6) (x : Jac MontWord) :
    (g1File.write s f x).finfo = s.finfo := rfl
@[simp] theorem g1File_write_bptr (s : State) (f : Field6) (x : Jac MontWord) :
    (g1File.write s f x).bptr = s.bptr := rfl
@[simp] theorem g1File_write_blen (s : State) (f : Field6) (x : Jac MontWord) :
    (g1File.write s f x).blen = s.blen := rfl
@[simp] theorem g1File_write_lena (s : State) (f : Field6) (x : Jac MontWord) :
    (g1File.write s f x).lena = s.lena := rfl
@[simp] theorem g1File_write_lenb (s : State) (f : Field6) (x : Jac MontWord) :
    (g1File.write s f x).lenb = s.lenb := rfl
@[simp] theorem g1File_write_dbuf (s : State) (f : Field6) (x : Jac MontWord) :
    (g1File.write s f x).dbuf = s.dbuf := rfl
@[simp] theorem g1File_write_host (s : State) (f : Field6) (x : Jac MontWord) :
    (g1File.write s f x).host = s.host := rfl
@[simp] theorem g1File_write_hostData (s : State) (f : Field6) (x : Jac MontWord) :
    (g1File.write s f x).hostData = s.hostData := rfl
@[simp] theorem g1File_write_entropy (s : State) (f : Field6) (x : Jac MontWord) :
    (g1File.write s f x).entropy = s.entropy := rfl
@[simp] theorem g1File_write_draws (s : State) (f : Field6) (x : Jac MontWord) :
    (g1File.write s f x).draws = s.draws := rfl

/-- Reading file `g2`. -/
@[simp] theorem g2File_read (s : State) (f : Field6) : g2File.read s f = readReg s.g2 f := rfl

/-! ### g2File_write -/

@[simp] theorem g2File_write_fp (s : State) (f : Field6) (x : Jac Fp2) :
    (g2File.write s f x).fp = s.fp := rfl
@[simp] theorem g2File_write_fp2 (s : State) (f : Field6) (x : Jac Fp2) :
    (g2File.write s f x).fp2 = s.fp2 := rfl
@[simp] theorem g2File_write_fp6 (s : State) (f : Field6) (x : Jac Fp2) :
    (g2File.write s f x).fp6 = s.fp6 := rfl
@[simp] theorem g2File_write_fp12 (s : State) (f : Field6) (x : Jac Fp2) :
    (g2File.write s f x).fp12 = s.fp12 := rfl
@[simp] theorem g2File_write_g1 (s : State) (f : Field6) (x : Jac Fp2) :
    (g2File.write s f x).g1 = s.g1 := rfl
@[simp] theorem g2File_write_g2 (s : State) (f : Field6) (x : Jac Fp2) :
    (g2File.write s f x).g2 = writeReg s.g2 f x := rfl
@[simp] theorem g2File_write_k (s : State) (f : Field6) (x : Jac Fp2) :
    (g2File.write s f x).k = s.k := rfl
@[simp] theorem g2File_write_res (s : State) (f : Field6) (x : Jac Fp2) :
    (g2File.write s f x).res = s.res := rfl
@[simp] theorem g2File_write_err (s : State) (f : Field6) (x : Jac Fp2) :
    (g2File.write s f x).err = s.err := rfl
@[simp] theorem g2File_write_fault (s : State) (f : Field6) (x : Jac Fp2) :
    (g2File.write s f x).fault = s.fault := rfl
@[simp] theorem g2File_write_finfo (s : State) (f : Field6) (x : Jac Fp2) :
    (g2File.write s f x).finfo = s.finfo := rfl
@[simp] theorem g2File_write_bptr (s : State) (f : Field6) (x : Jac Fp2) :
    (g2File.write s f x).bptr = s.bptr := rfl
@[simp] theorem g2File_write_blen (s : State) (f : Field6) (x : Jac Fp2) :
    (g2File.write s f x).blen = s.blen := rfl
@[simp] theorem g2File_write_lena (s : State) (f : Field6) (x : Jac Fp2) :
    (g2File.write s f x).lena = s.lena := rfl
@[simp] theorem g2File_write_lenb (s : State) (f : Field6) (x : Jac Fp2) :
    (g2File.write s f x).lenb = s.lenb := rfl
@[simp] theorem g2File_write_dbuf (s : State) (f : Field6) (x : Jac Fp2) :
    (g2File.write s f x).dbuf = s.dbuf := rfl
@[simp] theorem g2File_write_host (s : State) (f : Field6) (x : Jac Fp2) :
    (g2File.write s f x).host = s.host := rfl
@[simp] theorem g2File_write_hostData (s : State) (f : Field6) (x : Jac Fp2) :
    (g2File.write s f x).hostData = s.hostData := rfl
@[simp] theorem g2File_write_entropy (s : State) (f : Field6) (x : Jac Fp2) :
    (g2File.write s f x).entropy = s.entropy := rfl
@[simp] theorem g2File_write_draws (s : State) (f : Field6) (x : Jac Fp2) :
    (g2File.write s f x).draws = s.draws := rfl

/-- Reading file `k`. -/
@[simp] theorem kFile_read (s : State) (f : Field6) : kFile.read s f = readReg s.k f := rfl

/-! ### kFile_write -/

@[simp] theorem kFile_write_fp (s : State) (f : Field6) (x : Nat) :
    (kFile.write s f x).fp = s.fp := rfl
@[simp] theorem kFile_write_fp2 (s : State) (f : Field6) (x : Nat) :
    (kFile.write s f x).fp2 = s.fp2 := rfl
@[simp] theorem kFile_write_fp6 (s : State) (f : Field6) (x : Nat) :
    (kFile.write s f x).fp6 = s.fp6 := rfl
@[simp] theorem kFile_write_fp12 (s : State) (f : Field6) (x : Nat) :
    (kFile.write s f x).fp12 = s.fp12 := rfl
@[simp] theorem kFile_write_g1 (s : State) (f : Field6) (x : Nat) :
    (kFile.write s f x).g1 = s.g1 := rfl
@[simp] theorem kFile_write_g2 (s : State) (f : Field6) (x : Nat) :
    (kFile.write s f x).g2 = s.g2 := rfl
@[simp] theorem kFile_write_k (s : State) (f : Field6) (x : Nat) :
    (kFile.write s f x).k = writeReg s.k f x := rfl
@[simp] theorem kFile_write_res (s : State) (f : Field6) (x : Nat) :
    (kFile.write s f x).res = s.res := rfl
@[simp] theorem kFile_write_err (s : State) (f : Field6) (x : Nat) :
    (kFile.write s f x).err = s.err := rfl
@[simp] theorem kFile_write_fault (s : State) (f : Field6) (x : Nat) :
    (kFile.write s f x).fault = s.fault := rfl
@[simp] theorem kFile_write_finfo (s : State) (f : Field6) (x : Nat) :
    (kFile.write s f x).finfo = s.finfo := rfl
@[simp] theorem kFile_write_bptr (s : State) (f : Field6) (x : Nat) :
    (kFile.write s f x).bptr = s.bptr := rfl
@[simp] theorem kFile_write_blen (s : State) (f : Field6) (x : Nat) :
    (kFile.write s f x).blen = s.blen := rfl
@[simp] theorem kFile_write_lena (s : State) (f : Field6) (x : Nat) :
    (kFile.write s f x).lena = s.lena := rfl
@[simp] theorem kFile_write_lenb (s : State) (f : Field6) (x : Nat) :
    (kFile.write s f x).lenb = s.lenb := rfl
@[simp] theorem kFile_write_dbuf (s : State) (f : Field6) (x : Nat) :
    (kFile.write s f x).dbuf = s.dbuf := rfl
@[simp] theorem kFile_write_host (s : State) (f : Field6) (x : Nat) :
    (kFile.write s f x).host = s.host := rfl
@[simp] theorem kFile_write_hostData (s : State) (f : Field6) (x : Nat) :
    (kFile.write s f x).hostData = s.hostData := rfl
@[simp] theorem kFile_write_entropy (s : State) (f : Field6) (x : Nat) :
    (kFile.write s f x).entropy = s.entropy := rfl
@[simp] theorem kFile_write_draws (s : State) (f : Field6) (x : Nat) :
    (kFile.write s f x).draws = s.draws := rfl

/-! ### writePoint_g1 -/

@[simp] theorem writePoint_g1_fp (rd : Field6) (p : Aff MontWord) (s : State) :
    (writePoint g1Group rd p s).fp = s.fp := rfl
@[simp] theorem writePoint_g1_fp2 (rd : Field6) (p : Aff MontWord) (s : State) :
    (writePoint g1Group rd p s).fp2 = s.fp2 := rfl
@[simp] theorem writePoint_g1_fp6 (rd : Field6) (p : Aff MontWord) (s : State) :
    (writePoint g1Group rd p s).fp6 = s.fp6 := rfl
@[simp] theorem writePoint_g1_fp12 (rd : Field6) (p : Aff MontWord) (s : State) :
    (writePoint g1Group rd p s).fp12 = s.fp12 := rfl
@[simp] theorem writePoint_g1_g1 (rd : Field6) (p : Aff MontWord) (s : State) :
    (writePoint g1Group rd p s).g1 = writeReg s.g1 rd (Jac.drawn g1Group.ops (g1Draw s) p) := rfl
@[simp] theorem writePoint_g1_g2 (rd : Field6) (p : Aff MontWord) (s : State) :
    (writePoint g1Group rd p s).g2 = s.g2 := rfl
@[simp] theorem writePoint_g1_k (rd : Field6) (p : Aff MontWord) (s : State) :
    (writePoint g1Group rd p s).k = s.k := rfl
@[simp] theorem writePoint_g1_res (rd : Field6) (p : Aff MontWord) (s : State) :
    (writePoint g1Group rd p s).res = s.res := rfl
@[simp] theorem writePoint_g1_err (rd : Field6) (p : Aff MontWord) (s : State) :
    (writePoint g1Group rd p s).err = s.err := rfl
@[simp] theorem writePoint_g1_fault (rd : Field6) (p : Aff MontWord) (s : State) :
    (writePoint g1Group rd p s).fault = s.fault := rfl
@[simp] theorem writePoint_g1_finfo (rd : Field6) (p : Aff MontWord) (s : State) :
    (writePoint g1Group rd p s).finfo = s.finfo := rfl
@[simp] theorem writePoint_g1_bptr (rd : Field6) (p : Aff MontWord) (s : State) :
    (writePoint g1Group rd p s).bptr = s.bptr := rfl
@[simp] theorem writePoint_g1_blen (rd : Field6) (p : Aff MontWord) (s : State) :
    (writePoint g1Group rd p s).blen = s.blen := rfl
@[simp] theorem writePoint_g1_lena (rd : Field6) (p : Aff MontWord) (s : State) :
    (writePoint g1Group rd p s).lena = s.lena := rfl
@[simp] theorem writePoint_g1_lenb (rd : Field6) (p : Aff MontWord) (s : State) :
    (writePoint g1Group rd p s).lenb = s.lenb := rfl
@[simp] theorem writePoint_g1_dbuf (rd : Field6) (p : Aff MontWord) (s : State) :
    (writePoint g1Group rd p s).dbuf = s.dbuf := rfl
@[simp] theorem writePoint_g1_host (rd : Field6) (p : Aff MontWord) (s : State) :
    (writePoint g1Group rd p s).host = s.host := rfl
@[simp] theorem writePoint_g1_hostData (rd : Field6) (p : Aff MontWord) (s : State) :
    (writePoint g1Group rd p s).hostData = s.hostData := rfl
@[simp] theorem writePoint_g1_entropy (rd : Field6) (p : Aff MontWord) (s : State) :
    (writePoint g1Group rd p s).entropy = s.entropy := rfl
@[simp] theorem writePoint_g1_draws (rd : Field6) (p : Aff MontWord) (s : State) :
    (writePoint g1Group rd p s).draws = s.draws + 1 := rfl

/-! ### writePoint_g2 -/

@[simp] theorem writePoint_g2_fp (rd : Field6) (p : Aff Fp2) (s : State) :
    (writePoint g2Group rd p s).fp = s.fp := rfl
@[simp] theorem writePoint_g2_fp2 (rd : Field6) (p : Aff Fp2) (s : State) :
    (writePoint g2Group rd p s).fp2 = s.fp2 := rfl
@[simp] theorem writePoint_g2_fp6 (rd : Field6) (p : Aff Fp2) (s : State) :
    (writePoint g2Group rd p s).fp6 = s.fp6 := rfl
@[simp] theorem writePoint_g2_fp12 (rd : Field6) (p : Aff Fp2) (s : State) :
    (writePoint g2Group rd p s).fp12 = s.fp12 := rfl
@[simp] theorem writePoint_g2_g1 (rd : Field6) (p : Aff Fp2) (s : State) :
    (writePoint g2Group rd p s).g1 = s.g1 := rfl
@[simp] theorem writePoint_g2_g2 (rd : Field6) (p : Aff Fp2) (s : State) :
    (writePoint g2Group rd p s).g2 = writeReg s.g2 rd (Jac.drawn g2Group.ops (g2Draw s) p) := rfl
@[simp] theorem writePoint_g2_k (rd : Field6) (p : Aff Fp2) (s : State) :
    (writePoint g2Group rd p s).k = s.k := rfl
@[simp] theorem writePoint_g2_res (rd : Field6) (p : Aff Fp2) (s : State) :
    (writePoint g2Group rd p s).res = s.res := rfl
@[simp] theorem writePoint_g2_err (rd : Field6) (p : Aff Fp2) (s : State) :
    (writePoint g2Group rd p s).err = s.err := rfl
@[simp] theorem writePoint_g2_fault (rd : Field6) (p : Aff Fp2) (s : State) :
    (writePoint g2Group rd p s).fault = s.fault := rfl
@[simp] theorem writePoint_g2_finfo (rd : Field6) (p : Aff Fp2) (s : State) :
    (writePoint g2Group rd p s).finfo = s.finfo := rfl
@[simp] theorem writePoint_g2_bptr (rd : Field6) (p : Aff Fp2) (s : State) :
    (writePoint g2Group rd p s).bptr = s.bptr := rfl
@[simp] theorem writePoint_g2_blen (rd : Field6) (p : Aff Fp2) (s : State) :
    (writePoint g2Group rd p s).blen = s.blen := rfl
@[simp] theorem writePoint_g2_lena (rd : Field6) (p : Aff Fp2) (s : State) :
    (writePoint g2Group rd p s).lena = s.lena := rfl
@[simp] theorem writePoint_g2_lenb (rd : Field6) (p : Aff Fp2) (s : State) :
    (writePoint g2Group rd p s).lenb = s.lenb := rfl
@[simp] theorem writePoint_g2_dbuf (rd : Field6) (p : Aff Fp2) (s : State) :
    (writePoint g2Group rd p s).dbuf = s.dbuf := rfl
@[simp] theorem writePoint_g2_host (rd : Field6) (p : Aff Fp2) (s : State) :
    (writePoint g2Group rd p s).host = s.host := rfl
@[simp] theorem writePoint_g2_hostData (rd : Field6) (p : Aff Fp2) (s : State) :
    (writePoint g2Group rd p s).hostData = s.hostData := rfl
@[simp] theorem writePoint_g2_entropy (rd : Field6) (p : Aff Fp2) (s : State) :
    (writePoint g2Group rd p s).entropy = s.entropy := rfl
@[simp] theorem writePoint_g2_draws (rd : Field6) (p : Aff Fp2) (s : State) :
    (writePoint g2Group rd p s).draws = s.draws + 1 := rfl

/-! ### withFetchWord -/

@[simp] theorem withFetchWord_fp (s : State) (nbits w : Nat) :
    (s.withFetchWord nbits w).fp = s.fp := rfl
@[simp] theorem withFetchWord_fp2 (s : State) (nbits w : Nat) :
    (s.withFetchWord nbits w).fp2 = s.fp2 := rfl
@[simp] theorem withFetchWord_fp6 (s : State) (nbits w : Nat) :
    (s.withFetchWord nbits w).fp6 = s.fp6 := rfl
@[simp] theorem withFetchWord_fp12 (s : State) (nbits w : Nat) :
    (s.withFetchWord nbits w).fp12 = s.fp12 := rfl
@[simp] theorem withFetchWord_g1 (s : State) (nbits w : Nat) :
    (s.withFetchWord nbits w).g1 = s.g1 := rfl
@[simp] theorem withFetchWord_g2 (s : State) (nbits w : Nat) :
    (s.withFetchWord nbits w).g2 = s.g2 := rfl
@[simp] theorem withFetchWord_k (s : State) (nbits w : Nat) :
    (s.withFetchWord nbits w).k = s.k := rfl
@[simp] theorem withFetchWord_res (s : State) (nbits w : Nat) :
    (s.withFetchWord nbits w).res = s.res := rfl
@[simp] theorem withFetchWord_err (s : State) (nbits w : Nat) :
    (s.withFetchWord nbits w).err = s.err := rfl
@[simp] theorem withFetchWord_fault (s : State) (nbits w : Nat) :
    (s.withFetchWord nbits w).fault = s.fault := rfl
@[simp] theorem withFetchWord_finfo (s : State) (nbits w : Nat) :
    (s.withFetchWord nbits w).finfo = s.finfo := rfl
@[simp] theorem withFetchWord_bptr (s : State) (nbits w : Nat) :
    (s.withFetchWord nbits w).bptr = s.bptr := rfl
@[simp] theorem withFetchWord_blen (s : State) (nbits w : Nat) :
    (s.withFetchWord nbits w).blen = s.blen := rfl
@[simp] theorem withFetchWord_lena (s : State) (nbits w : Nat) :
    (s.withFetchWord nbits w).lena = s.lena := rfl
@[simp] theorem withFetchWord_lenb (s : State) (nbits w : Nat) :
    (s.withFetchWord nbits w).lenb = s.lenb := rfl
@[simp] theorem withFetchWord_dbuf (s : State) (nbits w : Nat) :
    (s.withFetchWord nbits w).dbuf = s.dbuf := rfl
@[simp] theorem withFetchWord_host (s : State) (nbits w : Nat) :
    (s.withFetchWord nbits w).host = .writeReg 0 (BitVec.ofNat 32 (w % 2 ^ nbits)) :: s.host := rfl
@[simp] theorem withFetchWord_hostData (s : State) (nbits w : Nat) :
    (s.withFetchWord nbits w).hostData = s.hostData := rfl
@[simp] theorem withFetchWord_entropy (s : State) (nbits w : Nat) :
    (s.withFetchWord nbits w).entropy = s.entropy := rfl
@[simp] theorem withFetchWord_draws (s : State) (nbits w : Nat) :
    (s.withFetchWord nbits w).draws = s.draws := rfl

/-! ### resetEngine -/

@[simp] theorem resetEngine_fp (s : State) :
    (resetEngine s).fp = State.reset.fp := rfl
@[simp] theorem resetEngine_fp2 (s : State) :
    (resetEngine s).fp2 = State.reset.fp2 := rfl
@[simp] theorem resetEngine_fp6 (s : State) :
    (resetEngine s).fp6 = State.reset.fp6 := rfl
@[simp] theorem resetEngine_fp12 (s : State) :
    (resetEngine s).fp12 = State.reset.fp12 := rfl
@[simp] theorem resetEngine_g1 (s : State) :
    (resetEngine s).g1 = State.reset.g1 := rfl
@[simp] theorem resetEngine_g2 (s : State) :
    (resetEngine s).g2 = State.reset.g2 := rfl
@[simp] theorem resetEngine_k (s : State) :
    (resetEngine s).k = State.reset.k := rfl
@[simp] theorem resetEngine_res (s : State) :
    (resetEngine s).res = State.reset.res := rfl
@[simp] theorem resetEngine_err (s : State) :
    (resetEngine s).err = State.reset.err := rfl
@[simp] theorem resetEngine_fault (s : State) :
    (resetEngine s).fault = State.reset.fault := rfl
@[simp] theorem resetEngine_finfo (s : State) :
    (resetEngine s).finfo = State.reset.finfo := rfl
@[simp] theorem resetEngine_bptr (s : State) :
    (resetEngine s).bptr = State.reset.bptr := rfl
@[simp] theorem resetEngine_blen (s : State) :
    (resetEngine s).blen = State.reset.blen := rfl
@[simp] theorem resetEngine_lena (s : State) :
    (resetEngine s).lena = State.reset.lena := rfl
@[simp] theorem resetEngine_lenb (s : State) :
    (resetEngine s).lenb = State.reset.lenb := rfl
@[simp] theorem resetEngine_dbuf (s : State) :
    (resetEngine s).dbuf = State.reset.dbuf := rfl
@[simp] theorem resetEngine_host (s : State) :
    (resetEngine s).host = s.host := rfl
@[simp] theorem resetEngine_hostData (s : State) :
    (resetEngine s).hostData = s.hostData := rfl
@[simp] theorem resetEngine_entropy (s : State) :
    (resetEngine s).entropy = s.entropy := rfl
@[simp] theorem resetEngine_draws (s : State) :
    (resetEngine s).draws = s.draws := rfl

end Sys2Proof.Machine
end

