-- ==== Sys2Proof/Laws/Ops.lean ====
section
/-!
SUPPORT. What each shared operation can do, said once: the register files, the frame a command runs in, the
window, and the shapes. A `_cases` lemma lists every way its operation can end.
-/

namespace Sys2Proof.Machine

/-! ### Register files -/

theorem readReg_eq_some {α : Type} {n : Nat} {v : Vector (Reg α) n} {f : Field6} {x : α} :
    readReg v f = some x ↔ ∃ h : f.toNat < n, v[f.toNat].valid = true ∧ v[f.toNat].content = x := by
  unfold readReg
  by_cases h : f.toNat < n
  · rw [Vector.getElem?_eq_getElem h]
    by_cases hv : v[f.toNat].valid = true <;> simp [h, hv]
  · rw [Vector.getElem?_eq_none (by omega)]
    simp [h]

theorem writeReg_getElem {α : Type} {n : Nat} (v : Vector (Reg α) n) (f : Field6) (x : α) (i : Nat)
    (h : i < n) : (writeReg v f x)[i] = if f.toNat = i then ⟨true, x⟩ else v[i] := by
  unfold writeReg
  rw [Vector.getElem_setIfInBounds]

theorem readReg_writeReg_same {α : Type} {n : Nat} (v : Vector (Reg α) n) {f : Field6} (x : α)
    (h : f.toNat < n) : readReg (writeReg v f x) f = some x := by
  rw [readReg_eq_some]
  exact ⟨h, by simp [writeReg_getElem], by simp [writeReg_getElem]⟩

theorem readReg_writeReg_other {α : Type} {n : Nat} (v : Vector (Reg α) n) {f g : Field6} (x : α)
    (h : f ≠ g) : readReg (writeReg v f x) g = readReg v g := by
  have hn : f.toNat ≠ g.toNat := fun e => h (BitVec.eq_of_toNat_eq e)
  unfold readReg writeReg
  rw [Vector.getElem?_setIfInBounds_ne hn]

theorem inFile_iff {size : Nat} {f : Field6} : inFile size f = true ↔ f.toNat < size := by
  simp [inFile]

/-! ### The frame of a command -/

theorem runCommand_halted (i : Instr) (s : State) (e : Ending) (h : halted s = true) :
    runCommand i s e = .next s := by
  simp [runCommand, h]

theorem runCommand_illegal (i : Instr) (s : State) (e : Ending) (h : halted s = false)
    (hi : i.wellFormed = false) :
    runCommand i s e = .next (takeFault .illegalCommand (encode i) s) := by
  simp [runCommand, h, hi]

theorem runCommand_legal (i : Instr) (s : State) (e : Ending) (h : halted s = false)
    (hi : i.wellFormed = true) : runCommand i s e = finish (encode i) s e := by
  simp [runCommand, h, hi]

/-- Everything a command can do (R460, R463, R468, R470). -/
theorem runCommand_cases (i : Instr) (s : State) (e : Ending) :
    (halted s = true ∧ runCommand i s e = .next s) ∨
    (halted s = false ∧ i.wellFormed = false ∧
      runCommand i s e = .next (takeFault .illegalCommand (encode i) s)) ∨
    (halted s = false ∧ i.wellFormed = true ∧
      ((∃ t, e = .success t ∧ runCommand i s e = .next (succeed t)) ∨
       (∃ c, e = .fault c ∧ runCommand i s e = .next (takeFault c (encode i) s)) ∨
       (∃ k t, e = .error k t ∧ runCommand i s e = .next (takeError k t)))) := by
  cases h : halted s with
  | true => exact .inl ⟨rfl, runCommand_halted i s e h⟩
  | false =>
    cases hi : i.wellFormed with
    | false => exact .inr (.inl ⟨rfl, rfl, runCommand_illegal i s e h hi⟩)
    | true =>
      refine .inr (.inr ⟨rfl, rfl, ?_⟩)
      rw [runCommand_legal i s e h hi]
      cases e with
      | success t => exact .inl ⟨t, rfl, rfl⟩
      | fault c => exact .inr (.inl ⟨c, rfl, rfl⟩)
      | error k t => exact .inr (.inr ⟨k, t, rfl, rfl⟩)

/-- A property of states that faults, errors and success keep holds of whatever a command answers. -/
theorem runCommand_keeps (P : State → Prop) {i : Instr} {s t : State} {e : Ending}
    (h : runCommand i s e = .next t) (hs : P s) (fault : ∀ c w, P (takeFault c w s))
    (success : ∀ u, e = .success u → P (succeed u))
    (error : ∀ k u, e = .error k u → P (takeError k u)) : P t := by
  rcases runCommand_cases i s e with ⟨_, r⟩ | ⟨_, _, r⟩ | ⟨_, _, ⟨u, he, r⟩ | ⟨c, _, r⟩ | ⟨k, u, he, r⟩⟩ <;>
    rw [r] at h <;> cases h
  · exact hs
  · exact fault _ _
  · exact success u he
  · exact fault _ _
  · exact error k u he

/-! ### The window -/

/-- Everything a decoder's window check can do (R82, R470 steps 5 to 7). -/
theorem withWindow_cases (len : Nat) (s : State) (effect : List Byte → Ending) :
    (Config.bufBytes < windowEnd s ∧ withWindow len s effect = .fault .bufferBounds) ∨
    (windowEnd s ≤ Config.bufBytes ∧ s.blen.toNat < len ∧
      withWindow len s effect = .error .insufficientData s) ∨
    (windowEnd s ≤ Config.bufBytes ∧ len ≤ s.blen.toNat ∧
      memReadRange s.dbuf s.bptr.toNat len = none ∧
      withWindow len s effect = .fault .uninitOperand) ∨
    (∃ bytes, windowEnd s ≤ Config.bufBytes ∧ len ≤ s.blen.toNat ∧
      memReadRange s.dbuf s.bptr.toNat len = some bytes ∧
      withWindow len s effect = effect bytes) := by
  unfold withWindow
  split
  · exact .inl ⟨‹_›, rfl⟩
  · split
    · exact .inr (.inl ⟨by omega, ‹_›, rfl⟩)
    · split
      · exact .inr (.inr (.inl ⟨by omega, by omega, ‹_›, rfl⟩))
      · exact .inr (.inr (.inr ⟨_, by omega, by omega, ‹_›, rfl⟩))

/-- Everything an encoder's window check can do (R82, R470 steps 5 and 6). -/
theorem withRoom_cases (len : Nat) (s : State) (effect : Ending) :
    (Config.bufBytes < windowEnd s + len ∧ withRoom len s effect = .fault .bufferBounds) ∨
    (windowEnd s + len ≤ Config.bufBytes ∧ withRoom len s effect = effect) := by
  unfold withRoom
  split
  · exact .inl ⟨by omega, rfl⟩
  · split
    · exact .inl ⟨by omega, rfl⟩
    · exact .inr ⟨by omega, rfl⟩

/-! ### The shapes -/

theorem unary_cases {α β : Type} (src : RegFile α) (dst : RegFile β) (op : α → β) (rd ra : Field6)
    (s : State) :
    (src.read s ra = none ∧ unary src dst op rd ra s = .fault .uninitOperand) ∨
    (∃ a, src.read s ra = some a ∧ unary src dst op rd ra s = .success (dst.write s rd (op a))) := by
  unfold unary
  cases h : src.read s ra with
  | none => exact .inl ⟨rfl, rfl⟩
  | some a => exact .inr ⟨a, rfl, rfl⟩

theorem unaryNonzero_cases {α β : Type} [DecidableEq α] (src : RegFile α) (dst : RegFile β)
    (zero : α) (op : α → β) (rd ra : Field6) (s : State) :
    (src.read s ra = none ∧ unaryNonzero src dst zero op rd ra s = .fault .uninitOperand) ∨
    (src.read s ra = some zero ∧ unaryNonzero src dst zero op rd ra s = .fault .invertZero) ∨
    (∃ a, src.read s ra = some a ∧ a ≠ zero ∧
      unaryNonzero src dst zero op rd ra s = .success (dst.write s rd (op a))) := by
  unfold unaryNonzero
  cases h : src.read s ra with
  | none => exact .inl ⟨rfl, rfl⟩
  | some a =>
    by_cases ha : a = zero
    · exact .inr (.inl ⟨by rw [ha], by simp [ha]⟩)
    · exact .inr (.inr ⟨a, rfl, ha, by simp [ha]⟩)

theorem binary_cases {α β γ : Type} (srcA : RegFile α) (srcB : RegFile β) (dst : RegFile γ)
    (op : α → β → γ) (rd ra rb : Field6) (s : State) :
    ((srcA.read s ra = none ∨ srcB.read s rb = none) ∧
      binary srcA srcB dst op rd ra rb s = .fault .uninitOperand) ∨
    (∃ a b, srcA.read s ra = some a ∧ srcB.read s rb = some b ∧
      binary srcA srcB dst op rd ra rb s = .success (dst.write s rd (op a b))) := by
  unfold binary
  cases ha : srcA.read s ra with
  | none => exact .inl ⟨.inl rfl, rfl⟩
  | some a =>
    cases hb : srcB.read s rb with
    | none => exact .inl ⟨.inr rfl, rfl⟩
    | some b => exact .inr ⟨a, b, rfl, rfl, rfl⟩

theorem ternary_cases {α β : Type} (src : RegFile α) (dst : RegFile β) (op : α → α → α → β)
    (rd ra rb rc : Field6) (s : State) :
    ((src.read s ra = none ∨ src.read s rb = none ∨ src.read s rc = none) ∧
      ternary src dst op rd ra rb rc s = .fault .uninitOperand) ∨
    (∃ a b c, src.read s ra = some a ∧ src.read s rb = some b ∧ src.read s rc = some c ∧
      ternary src dst op rd ra rb rc s = .success (dst.write s rd (op a b c))) := by
  unfold ternary
  cases ha : src.read s ra with
  | none => exact .inl ⟨.inl rfl, rfl⟩
  | some a =>
    cases hb : src.read s rb with
    | none => exact .inl ⟨.inr (.inl rfl), rfl⟩
    | some b =>
      cases hc : src.read s rc with
      | none => exact .inl ⟨.inr (.inr rfl), rfl⟩
      | some c => exact .inr ⟨a, b, c, rfl, rfl, rfl, rfl⟩

theorem test_cases {α : Type} (src : RegFile α) (holds : α → Bool) (ra : Field6) (s : State) :
    (src.read s ra = none ∧ test src holds ra s = .fault .uninitOperand) ∨
    (∃ a, src.read s ra = some a ∧ test src holds ra s = .success (setRes s (holds a))) := by
  unfold test
  cases h : src.read s ra with
  | none => exact .inl ⟨rfl, rfl⟩
  | some a => exact .inr ⟨a, rfl, rfl⟩

theorem test2_cases {α : Type} (src : RegFile α) (holds : α → α → Bool) (ra rb : Field6)
    (s : State) :
    ((src.read s ra = none ∨ src.read s rb = none) ∧
      test2 src holds ra rb s = .fault .uninitOperand) ∨
    (∃ a b, src.read s ra = some a ∧ src.read s rb = some b ∧
      test2 src holds ra rb s = .success (setRes s (holds a b))) := by
  unfold test2
  cases ha : src.read s ra with
  | none => exact .inl ⟨.inl rfl, rfl⟩
  | some a =>
    cases hb : src.read s rb with
    | none => exact .inl ⟨.inr rfl, rfl⟩
    | some b => exact .inr ⟨a, b, rfl, rfl, rfl⟩

theorem encodeReg_cases {α : Type} (src : RegFile α) (len : Nat) (bytes : α → List Byte)
    (ra : Field6) (s : State) :
    (src.read s ra = none ∧ encodeReg src len bytes ra s = .fault .uninitOperand) ∨
    (∃ a, src.read s ra = some a ∧ Config.bufBytes < windowEnd s + len ∧
      encodeReg src len bytes ra s = .fault .bufferBounds) ∨
    (∃ a, src.read s ra = some a ∧ windowEnd s + len ≤ Config.bufBytes ∧
      encodeReg src len bytes ra s = .success (append (bytes a) s)) := by
  unfold encodeReg
  cases h : src.read s ra with
  | none => exact .inl ⟨rfl, rfl⟩
  | some a =>
    rcases withRoom_cases len s (.success (append (bytes a) s)) with ⟨hw, e⟩ | ⟨hw, e⟩
    · exact .inr (.inl ⟨a, rfl, hw, e⟩)
    · exact .inr (.inr ⟨a, rfl, hw, e⟩)

theorem pointUnary_cases {F : Type} [DecidableEq F] (G : PointGroup F) (op : Aff F → Aff F)
    (rd ra : Field6) (s : State) :
    (G.file.read s ra = none ∧ pointUnary G op rd ra s = .fault .uninitOperand) ∨
    (∃ p, G.file.read s ra = some p ∧
      pointUnary G op rd ra s = .success (writePoint G rd (op (affineOf G.ops p)) s)) := by
  unfold pointUnary
  cases h : G.file.read s ra with
  | none => exact .inl ⟨rfl, rfl⟩
  | some p => exact .inr ⟨p, rfl, rfl⟩

theorem pointAdd_cases {F : Type} [DecidableEq F] (G : PointGroup F) (rd ra rb : Field6)
    (s : State) :
    ((G.file.read s ra = none ∨ G.file.read s rb = none) ∧
      pointAdd G rd ra rb s = .fault .uninitOperand) ∨
    (∃ p q, G.file.read s ra = some p ∧ G.file.read s rb = some q ∧
      ((p.z = G.ops.zero ∧ pointAdd G rd ra rb s = .success (G.file.write s rd q)) ∨
       (p.z ≠ G.ops.zero ∧ q.z = G.ops.zero ∧
         pointAdd G rd ra rb s = .success (G.file.write s rd p)) ∨
       (p.z ≠ G.ops.zero ∧ q.z ≠ G.ops.zero ∧
         pointAdd G rd ra rb s =
           .success (writePoint G rd (Aff.add G.ops (affineOf G.ops p) (affineOf G.ops q)) s)))) := by
  unfold pointAdd
  cases ha : G.file.read s ra with
  | none => exact .inl ⟨.inl rfl, rfl⟩
  | some p =>
    cases hb : G.file.read s rb with
    | none => exact .inl ⟨.inr rfl, rfl⟩
    | some q =>
      refine .inr ⟨p, q, rfl, rfl, ?_⟩
      by_cases hp : p.z = G.ops.zero
      · exact .inl ⟨hp, by simp [hp]⟩
      · by_cases hq : q.z = G.ops.zero
        · exact .inr (.inl ⟨hp, hq, by simp [hp, hq]⟩)
        · exact .inr (.inr ⟨hp, hq, by simp [hp, hq]⟩)

theorem pointMul_cases {F : Type} [DecidableEq F] (G : PointGroup F) (rd ra kb : Field6)
    (s : State) :
    ((G.file.read s ra = none ∨ kFile.read s kb = none) ∧
      pointMul G rd ra kb s = .fault .uninitOperand) ∨
    (∃ p e, G.file.read s ra = some p ∧ kFile.read s kb = some e ∧
      pointMul G rd ra kb s =
        .success (writePoint G rd (Aff.smul G.ops e (affineOf G.ops p)) s)) := by
  unfold pointMul
  cases ha : G.file.read s ra with
  | none => exact .inl ⟨.inl rfl, rfl⟩
  | some p =>
    cases hb : kFile.read s kb with
    | none => exact .inl ⟨.inr rfl, rfl⟩
    | some e => exact .inr ⟨p, e, rfl, rfl, rfl⟩

theorem pointBaseMul_cases {F : Type} [DecidableEq F] (G : PointGroup F) (base : Aff F)
    (rd kb : Field6) (s : State) :
    (kFile.read s kb = none ∧ pointBaseMul G base rd kb s = .fault .uninitOperand) ∨
    (∃ e, kFile.read s kb = some e ∧
      pointBaseMul G base rd kb s = .success (writePoint G rd (Aff.smul G.ops e base) s)) := by
  unfold pointBaseMul
  cases h : kFile.read s kb with
  | none => exact .inl ⟨rfl, rfl⟩
  | some e => exact .inr ⟨e, rfl, rfl⟩

theorem pointRandom_cases {F : Type} [DecidableEq F] (G : PointGroup F) (base : Aff F)
    (rd kd : Field6) (s : State) :
    (entropyAnswer s = .fail ∧
      pointRandom G base rd kd s = .error .entropyFailure (afterRequest s)) ∨
    (∃ r, entropyAnswer s = .scalar r ∧
      pointRandom G base rd kd s =
        .success (writePoint G rd (Aff.smul G.ops (drawnScalar r) base)
          (kFile.write (afterRequest s) kd (drawnScalar r)))) := by
  unfold pointRandom
  cases h : entropyAnswer s with
  | fail => exact .inl ⟨rfl, rfl⟩
  | scalar r => exact .inr ⟨r, rfl, rfl⟩

/-- Everything a point decoder does with the bytes of its window (R433, R435). -/
theorem pointDecode_cases {F : Type} (G : PointGroup F) (len : Nat) (allZero : List Byte → Bool)
    (coords : List Byte → F × F) (rd : Field6) (s : State) :
    (Config.bufBytes < windowEnd s ∧
      pointDecode G len allZero coords rd s = .fault .bufferBounds) ∨
    (windowEnd s ≤ Config.bufBytes ∧ s.blen.toNat < len ∧
      pointDecode G len allZero coords rd s = .error .insufficientData s) ∨
    (windowEnd s ≤ Config.bufBytes ∧ len ≤ s.blen.toNat ∧
      memReadRange s.dbuf s.bptr.toNat len = none ∧
      pointDecode G len allZero coords rd s = .fault .uninitOperand) ∨
    (∃ bytes, windowEnd s ≤ Config.bufBytes ∧ len ≤ s.blen.toNat ∧
      memReadRange s.dbuf s.bptr.toNat len = some bytes ∧
      ((allZero bytes = true ∧
        pointDecode G len allZero coords rd s =
          .success (consume len (G.file.write s rd (Jac.infinity G.ops)))) ∨
       (allZero bytes = false ∧ G.onCurve (.pt (coords bytes).1 (coords bytes).2) = true ∧
        pointDecode G len allZero coords rd s =
          .success (consume len
            (G.file.write s rd (Jac.ofAffine G.ops (coords bytes).1 (coords bytes).2)))) ∨
       (allZero bytes = false ∧ G.onCurve (.pt (coords bytes).1 (coords bytes).2) = false ∧
        pointDecode G len allZero coords rd s = .error .malformedPoint s))) := by
  unfold pointDecode
  rcases withWindow_cases len s _ with ⟨h, e⟩ | ⟨h, l, e⟩ | ⟨h, l, r, e⟩ | ⟨bytes, h, l, r, e⟩
  · exact .inl ⟨h, e⟩
  · exact .inr (.inl ⟨h, l, e⟩)
  · exact .inr (.inr (.inl ⟨h, l, r, e⟩))
  · refine .inr (.inr (.inr ⟨bytes, h, l, r, ?_⟩))
    rw [e]
    cases hz : allZero bytes with
    | true => exact .inl ⟨rfl, rfl⟩
    | false =>
      cases hc : G.onCurve (.pt (coords bytes).1 (coords bytes).2) with
      | true => exact .inr (.inl ⟨rfl, rfl, by simp [hc]⟩)
      | false => exact .inr (.inr ⟨rfl, rfl, by simp [hc]⟩)

end Sys2Proof.Machine
end

