-- ==== Sys2Proof/Laws/Commands.lean ====
section
/-!
SUPPORT. What the effects that only one command has can do: a run of registers, PAIRCHK, K.ST; and what the
window updates, a decoder and a drawn scalar give.
-/

namespace Sys2Proof.Machine

/-- A run of registers reads as a list exactly when every register of it is valid and holds its entry. -/
theorem readRun_eq_some {α : Type} {n : Nat} {v : Vector (Reg α) n} :
    ∀ {m start : Nat} {xs : List α}, readRun v start m = some xs ↔
      xs.length = m ∧ ∀ i (h : i < xs.length), v[start + i]? = some ⟨true, xs[i]⟩ := by
  intro m
  induction m with
  | zero =>
    intro start xs
    constructor
    · intro h
      have : xs = [] := by simpa [readRun] using h.symm
      subst this
      exact ⟨rfl, fun i h => absurd h (Nat.not_lt_zero i)⟩
    · rintro ⟨h, -⟩
      rw [List.length_eq_zero_iff.mp h]; rfl
  | succ m ih =>
    intro start xs
    rw [readRun]
    constructor
    · intro h
      split at h
      · rename_i r rest hr hrest
        split at h
        · rename_i hv
          obtain ⟨hl, hi⟩ := ih.mp hrest
          have hx : xs = r.content :: rest := (Option.some.inj h).symm
          subst hx
          refine ⟨by simp [hl], fun i hi' => ?_⟩
          cases i with
          | zero =>
            rw [Nat.add_zero, hr]
            cases r; simp_all
          | succ i =>
            have := hi i (by simpa using hi')
            rw [show start + (i + 1) = start + 1 + i by omega, this]
            rfl
        · exact absurd h (by simp)
      · exact absurd h (by simp)
    · rintro ⟨hl, hi⟩
      cases xs with
      | nil => simp at hl
      | cons x rest =>
        have h0 := hi 0 (by simp)
        have hr : readRun v (start + 1) m = some rest :=
          ih.mpr ⟨by simpa using hl, fun i h => by
            have := hi (i + 1) (by simpa using h)
            rwa [show start + (i + 1) = start + 1 + i by omega] at this⟩
        rw [Nat.add_zero] at h0
        rw [h0, hr]
        rfl

/-- Everything PAIRCHK can do (R408, R470 steps 3 and 4). -/
theorem pairCheck_cases (ra rb : Field6) (s : State) :
    ((s.lena ≠ s.lenb ∨ Config.nG1 < ra.toNat + s.lena.toNat ∨
        Config.nG2 < rb.toNat + s.lena.toNat) ∧ pairCheck ra rb s = .fault .indexRange) ∨
    (s.lena = s.lenb ∧ ra.toNat + s.lena.toNat ≤ Config.nG1 ∧ rb.toNat + s.lena.toNat ≤ Config.nG2 ∧
      (((readRun s.g1 ra.toNat s.lena.toNat = none ∨ readRun s.g2 rb.toNat s.lena.toNat = none) ∧
        pairCheck ra rb s = .fault .uninitOperand) ∨
       ∃ ps qs, readRun s.g1 ra.toNat s.lena.toNat = some ps ∧
        readRun s.g2 rb.toNat s.lena.toNat = some qs ∧
        pairCheck ra rb s = .success (setRes s
          (finalExp Config.params (millerProduct Config.params
            ((ps.map (affineOf g1Group.ops)).zip (qs.map (affineOf g2Group.ops)))) ==
              Fp12.one Config.params)))) := by
  unfold pairCheck
  by_cases h : s.lena = s.lenb
  · by_cases hr : Config.nG1 < ra.toNat + s.lena.toNat ∨ Config.nG2 < rb.toNat + s.lena.toNat
    · exact .inl ⟨.inr hr, by rw [if_pos h, if_pos hr]⟩
    · rw [if_pos h, if_neg hr]
      refine .inr ⟨h, by omega, by omega, ?_⟩
      cases hp : readRun s.g1 ra.toNat s.lena.toNat with
      | none => exact .inl ⟨.inl rfl, rfl⟩
      | some ps =>
        cases hq : readRun s.g2 rb.toNat s.lena.toNat with
        | none => exact .inl ⟨.inr rfl, rfl⟩
        | some qs => exact .inr ⟨ps, qs, rfl, rfl, rfl⟩
  · exact .inl ⟨.inl h, by rw [if_neg h]⟩

/-- Everything K.ST can do (R379). -/
theorem storeScalar_cases (ka : Field6) (s : State) :
    (readReg s.k ka = none ∧ storeScalar ka s = .fault .uninitOperand) ∨
    (∃ e, readReg s.k ka = some e ∧
      ((Config.bufBytes < windowEnd s + 32 ∧ storeScalar ka s = .fault .bufferBounds) ∨
       (windowEnd s + 32 ≤ Config.bufBytes ∧ 2 ^ 256 ≤ e ∧
        storeScalar ka s = .fault .scalarRange) ∨
       (windowEnd s + 32 ≤ Config.bufBytes ∧ e < 2 ^ 256 ∧
        storeScalar ka s = .success (append (bytesBE e 32) s)))) := by
  unfold storeScalar
  show (readReg s.k ka = none ∧ _) ∨ _
  have hk : kFile.read s ka = readReg s.k ka := rfl
  rw [hk]
  cases h : readReg s.k ka with
  | none => exact .inl ⟨rfl, rfl⟩
  | some e =>
    refine .inr ⟨e, rfl, ?_⟩
    by_cases he : 2 ^ 256 ≤ e
    · rcases withRoom_cases 32 s (.fault .scalarRange) with ⟨hw, e1⟩ | ⟨hw, e1⟩
      · exact .inl ⟨hw, by simpa only [he, if_true] using e1⟩
      · exact .inr (.inl ⟨hw, he, by simpa only [he, if_true] using e1⟩)
    · rcases withRoom_cases 32 s (.success (append (bytesBE e 32) s)) with ⟨hw, e1⟩ | ⟨hw, e1⟩
      · exact .inl ⟨hw, by simpa only [he, if_false] using e1⟩
      · exact .inr (.inr ⟨hw, by omega, by simpa only [he, if_false] using e1⟩)

/-! ### The window -/

/-- `Consume` inside DBUF moves the front of the window without wrapping (R52, R53). -/
theorem consume_window {len : Nat} {s : State} (h : windowEnd s ≤ Config.bufBytes)
    (hl : len ≤ s.blen.toNat) : (consume len s).bptr.toNat = s.bptr.toNat + len ∧
      (consume len s).blen.toNat = s.blen.toNat - len := by
  have hw : s.bptr.toNat + s.blen.toNat ≤ 4096 := h
  have hm : len % 2 ^ 32 = len := Nat.mod_eq_of_lt (by omega)
  constructor
  · show (s.bptr + BitVec.ofNat 32 len).toNat = _
    rw [BitVec.toNat_add, BitVec.toNat_ofNat, hm, Nat.mod_eq_of_lt (by omega)]
  · show (s.blen - BitVec.ofNat 32 len).toNat = _
    rw [BitVec.toNat_sub, BitVec.toNat_ofNat, hm]
    omega

/-- `Append` inside DBUF writes the bytes after the window's end, writes no other byte, and lengthens the
window without wrapping (R21, R53). -/
theorem append_window {bytes : List Byte} {s : State}
    (h : windowEnd s + bytes.length ≤ Config.bufBytes) :
    (append bytes s).blen.toNat = s.blen.toNat + bytes.length ∧
    memReadRange (append bytes s).dbuf (windowEnd s) bytes.length = some bytes ∧
    ∀ a, (a < windowEnd s ∨ windowEnd s + bytes.length ≤ a) →
      memRead (append bytes s).dbuf a = memRead s.dbuf a := by
  have hw : s.bptr.toNat + s.blen.toNat + bytes.length ≤ 4096 := h
  refine ⟨?_, memReadRange_memWriteRange _ _ _, fun a ha => memRead_memWriteRange_other _ _ _ _ ha⟩
  show (s.blen + BitVec.ofNat 32 bytes.length).toNat = _
  rw [BitVec.toNat_add, BitVec.toNat_ofNat, Nat.mod_eq_of_lt (by omega : bytes.length < 2 ^ 32),
    Nat.mod_eq_of_lt (by omega)]

/-- Everything a decoder into a register can do (R82). -/
theorem decodeReg_cases {α : Type} (dst : RegFile α) (len : Nat) (value : List Byte → α)
    (rd : Field6) (s : State) :
    (Config.bufBytes < windowEnd s ∧ decodeReg dst len value rd s = .fault .bufferBounds) ∨
    (windowEnd s ≤ Config.bufBytes ∧ s.blen.toNat < len ∧
      decodeReg dst len value rd s = .error .insufficientData s) ∨
    (windowEnd s ≤ Config.bufBytes ∧ len ≤ s.blen.toNat ∧
      memReadRange s.dbuf s.bptr.toNat len = none ∧
      decodeReg dst len value rd s = .fault .uninitOperand) ∨
    (∃ bytes, windowEnd s ≤ Config.bufBytes ∧ len ≤ s.blen.toNat ∧
      memReadRange s.dbuf s.bptr.toNat len = some bytes ∧
      decodeReg dst len value rd s = .success (consume len (dst.write s rd (value bytes)))) :=
  withWindow_cases len s _

/-! ### The entropy source -/

/-- A drawn scalar lies in [1, n), and an answer of that range is used as it is (R66, R440). -/
theorem drawnScalar_range (r : Nat) : 1 ≤ drawnScalar r ∧ drawnScalar r < Config.params.n ∧
    (1 ≤ r → r < Config.params.n → drawnScalar r = r) := by
  have h2 := Config.params_valid.n_prime.two_le
  have hm := Nat.mod_lt (r - 1) (show 0 < Config.params.n - 1 by omega)
  unfold drawnScalar
  refine ⟨by omega, by omega, fun h1 hr => ?_⟩
  rw [Nat.mod_eq_of_lt (by omega)]
  omega

end Sys2Proof.Machine
end

