-- ==== Sys2Proof/Laws/Field.lean ====
section
/-!
SUPPORT. Words and residues: reduction, the two conversions, and the bytes of a limb (R16, R160, R163, R164).
-/

namespace Sys2Proof

theorem p_pos : 0 < Config.params.p := Config.params_valid.p_prime.pos

theorem reduce_toNat (v : Nat) : (Fp.reduce Config.params v).toNat = v % Config.params.p := by
  have h := Nat.mod_lt v p_pos
  have := Config.params_valid.p_lt
  unfold montR at this
  rw [Fp.reduce, BitVec.toNat_ofNat, Nat.mod_eq_of_lt (by omega)]

/-- A reduced word is canonical (R163). -/
theorem reduce_canonical (v : Nat) : Fp.Canonical Config.params (Fp.reduce Config.params v) := by
  rw [Fp.Canonical, reduce_toNat]; exact Nat.mod_lt _ p_pos

theorem reduce_eq_iff {u v : Nat} :
    Fp.reduce Config.params u = Fp.reduce Config.params v ↔
      u % Config.params.p = v % Config.params.p := by
  rw [← reduce_toNat, ← reduce_toNat]
  exact ⟨fun h => by rw [h], BitVec.eq_of_toNat_eq⟩

theorem reduce_of_canonical {a : MontWord} (h : Fp.Canonical Config.params a) :
    Fp.reduce Config.params a.toNat = a :=
  BitVec.eq_of_toNat_eq (by rw [reduce_toNat, Nat.mod_eq_of_lt h])

theorem zero_canonical : Fp.Canonical Config.params Fp.zero := by
  simpa [Fp.Canonical, Fp.zero] using p_pos

theorem one_canonical : Fp.Canonical Config.params (Fp.one Config.params) := reduce_canonical _

/-- R·RINV is 1 modulo p (R12). -/
theorem montR_mul_rInv : montR * Config.params.rInv ≡ 1 [MOD Config.params.p] := by
  have h := Config.params_valid.rInv_mul
  have h1 : 1 % Config.params.p = 1 :=
    Nat.mod_eq_of_lt Config.params_valid.p_prime.one_lt
  rw [Nat.ModEq, Nat.mul_comm, h, h1]

/-- `val(mont_enc(v))` = v mod p (R164). -/
theorem val_enc (v : Nat) : Fp.val Config.params (Fp.enc Config.params v) = v % Config.params.p := by
  unfold Fp.val Fp.enc
  rw [reduce_toNat, Nat.mod_mul_mod, Nat.mul_assoc]
  have := Nat.ModEq.mul_left v montR_mul_rInv
  rwa [Nat.mul_one] at this

/-- `mont_enc(val(A))` = A for a canonical word (R164). -/
theorem enc_val {a : MontWord} (h : Fp.Canonical Config.params a) :
    Fp.enc Config.params (Fp.val Config.params a) = a := by
  conv_rhs => rw [← reduce_of_canonical h]
  unfold Fp.enc Fp.val
  rw [reduce_eq_iff, Nat.mod_mul_mod, Nat.mul_assoc, Nat.mul_comm Config.params.rInv]
  have := Nat.ModEq.mul_left a.toNat montR_mul_rInv
  rwa [Nat.mul_one] at this

theorem enc_canonical (v : Nat) : Fp.Canonical Config.params (Fp.enc Config.params v) :=
  reduce_canonical _

theorem val_lt (a : MontWord) : Fp.val Config.params a < Config.params.p := Nat.mod_lt _ p_pos

theorem enc_eq_iff {u v : Nat} : Fp.enc Config.params u = Fp.enc Config.params v ↔
    u % Config.params.p = v % Config.params.p := by
  constructor
  · intro h; rw [← val_enc, ← val_enc, h]
  · intro h
    unfold Fp.enc
    rw [reduce_eq_iff, ← Nat.mod_mul_mod u, ← Nat.mod_mul_mod v, h]

theorem enc_mul (u v : Nat) : Fp.mul Config.params (Fp.enc Config.params u) (Fp.enc Config.params v) =
    Fp.enc Config.params (u * v) := by
  have h := montR_mul_rInv.mul_left (u * v * montR)
  have e : Fp.mul Config.params (Fp.enc Config.params u) (Fp.enc Config.params v) =
      Fp.reduce Config.params (u * montR * (v * montR) * Config.params.rInv) := by
    unfold Fp.mul Fp.enc
    rw [reduce_eq_iff, reduce_toNat, reduce_toNat]
    exact Nat.ModEq.mul_right _ (Nat.ModEq.mul (Nat.mod_modEq _ _) (Nat.mod_modEq _ _))
  rw [e, Fp.enc, reduce_eq_iff]
  calc u * montR * (v * montR) * Config.params.rInv
      = u * v * montR * (montR * Config.params.rInv) := by ring
    _ ≡ u * v * montR * 1 [MOD Config.params.p] := h
    _ = u * v * montR := by ring

theorem enc_add (u v : Nat) : Fp.add Config.params (Fp.enc Config.params u) (Fp.enc Config.params v) =
    Fp.enc Config.params (u + v) := by
  unfold Fp.add Fp.enc
  rw [reduce_eq_iff, reduce_toNat, reduce_toNat, Nat.add_mul, ← Nat.add_mod]

theorem one_eq_enc : Fp.one Config.params = Fp.enc Config.params 1 := by
  simp [Fp.one, Fp.enc]

theorem zero_eq_enc : Fp.zero = Fp.enc Config.params 0 :=
  BitVec.eq_of_toNat_eq (by rw [Fp.enc, reduce_toNat]; simp [Fp.zero])

/-- p is at least 7 (R10: p ≡ 7 mod 12). -/
theorem seven_le_p : 7 ≤ Config.params.p := by
  have := Config.params_valid.p_mod; omega

theorem one_ne_zero : Fp.one Config.params ≠ Fp.zero := by
  rw [one_eq_enc, zero_eq_enc, Ne, enc_eq_iff, Nat.mod_eq_of_lt, Nat.zero_mod]
  · exact Nat.one_ne_zero
  · exact lt_of_lt_of_le (by decide) seven_le_p

/-- R164: the encoding is the Montgomery product with R2. -/
theorem enc_eq_mul_r2 {v : Nat} (h : v < montR) :
    Fp.enc Config.params v = Fp.mul Config.params (BitVec.ofNat 256 v) (Fp.r2 Config.params) := by
  unfold Fp.enc Fp.mul Fp.r2
  rw [reduce_eq_iff, reduce_toNat, BitVec.toNat_ofNat, Nat.mod_eq_of_lt (show v < 2 ^ 256 from h)]
  have e : v * (montR * montR % Config.params.p) * Config.params.rInv ≡ v * montR [MOD Config.params.p] :=
    calc v * (montR * montR % Config.params.p) * Config.params.rInv
        ≡ v * (montR * montR) * Config.params.rInv [MOD Config.params.p] :=
          ((Nat.mod_modEq _ _).mul_left v).mul_right _
      _ = v * montR * (montR * Config.params.rInv) := by ring
      _ ≡ v * montR * 1 [MOD Config.params.p] := montR_mul_rInv.mul_left _
      _ = v * montR := Nat.mul_one _
  exact e.symm

/-- R164: the decoding is the Montgomery product with the integer 1. -/
theorem val_eq_mul_one (a : MontWord) :
    Fp.val Config.params a = (Fp.mul Config.params a 1).toNat := by
  unfold Fp.val Fp.mul
  rw [reduce_toNat, show (1 : MontWord).toNat = 1 from rfl, Nat.mul_one]

/-! ### Bytes -/

theorem bytesBE_length (v l : Nat) : (bytesBE v l).length = l := by
  induction l with
  | zero => rfl
  | succ l ih => simp [bytesBE, ih]

theorem beNat_foldl (s : List Byte) :
    ∀ a, s.foldl (fun v b => 256 * v + b.toNat) a = a * 256 ^ s.length + beNat s := by
  induction s with
  | nil => intro a; simp [beNat]
  | cons b s ih =>
    intro a
    have e : beNat (b :: s) = (256 * 0 + b.toNat) * 256 ^ s.length + beNat s := ih _
    rw [List.foldl_cons, ih, e, List.length_cons]
    ring

theorem beNat_append (s t : List Byte) : beNat (s ++ t) = beNat s * 256 ^ t.length + beNat t := by
  rw [beNat, List.foldl_append, beNat_foldl t, ← beNat]

theorem beNat_bytesBE (v l : Nat) : beNat (bytesBE v l) = v % 256 ^ l := by
  induction l with
  | zero => simp [bytesBE, beNat, Nat.mod_one]
  | succ l ih =>
    rw [bytesBE, ← List.singleton_append, beNat_append, ih, bytesBE_length, pow_succ,
      Nat.mod_mul]
    simp only [beNat, List.foldl_cons, List.foldl_nil, Nat.mul_zero, Nat.zero_add,
      BitVec.toNat_ofNat]
    ring

end Sys2Proof
end

