-- ==== Sys2Proof/Laws/Curve.lean ====
section
/-!
SUPPORT. The elements one and zero in products, sums and inverses, the affine image of a representative
(x, y, 1, t), and the limbs of encoded bytes.
-/

namespace Sys2Proof.Laws

/-! ### Fp -/

theorem enc_eq {u v : Nat} (h : u % Config.params.p = v % Config.params.p) :
    Fp.enc Config.params u = Fp.enc Config.params v := enc_eq_iff.mpr h

theorem enc_neg_zero : Fp.neg Config.params (Fp.enc Config.params 0) = Fp.enc Config.params 0 := by
  rw [← zero_eq_enc]
  refine BitVec.eq_of_toNat_eq ?_
  rw [Fp.neg, reduce_toNat]
  simp [Fp.zero]

theorem enc_sub_zero (v : Nat) : Fp.sub Config.params (Fp.enc Config.params v)
    (Fp.enc Config.params 0) = Fp.enc Config.params v := by
  rw [← zero_eq_enc]
  refine BitVec.eq_of_toNat_eq ?_
  rw [Fp.sub, reduce_toNat]
  simpa [Fp.zero] using Nat.mod_eq_of_lt (enc_canonical v)

theorem powMod_one (e : Nat) : powMod Config.params.p 1 e = 1 := by
  have h1 : 1 % Config.params.p = 1 := Nat.mod_eq_of_lt (by have := seven_le_p; omega)
  refine msbLoop_rel (fun r _ => r = 1) _ _ _ e h1 ?_
  rintro r m b rfl
  cases b <;> simp [msbRound, h1]

theorem inv_one : Fp.inv Config.params (Fp.enc Config.params 1) = Fp.enc Config.params 1 := by
  have h1 : 1 % Config.params.p = 1 := Nat.mod_eq_of_lt (by have := seven_le_p; omega)
  rw [Fp.inv, val_enc, h1, powMod_one]

theorem mul_one_of_canonical {a : MontWord} (h : Fp.Canonical Config.params a) :
    Fp.mul Config.params a (Fp.one Config.params) = a := by
  rw [← enc_val h, one_eq_enc, enc_mul, Nat.mul_one]

/-! ### Fp2 -/

theorem fp2_mul_one_of_canonical {a : Fp2} (h : Fp2.Canonical Config.params a) :
    Fp2.mul Config.params a (Fp2.one Config.params) = a := by
  obtain ⟨x, y⟩ := a
  have hx : x = Fp.enc Config.params (Fp.val Config.params x) := (enc_val h.1).symm
  have hy : y = Fp.enc Config.params (Fp.val Config.params y) := (enc_val h.2).symm
  generalize Fp.val Config.params x = u at hx
  generalize Fp.val Config.params y = v at hy
  subst hx hy
  simp [Fp2.mul, Fp2.one, one_eq_enc, zero_eq_enc, enc_mul, enc_add, enc_sub_zero]

theorem fp2_inv_one : Fp2.inv Config.params (Fp2.one Config.params) = Fp2.one Config.params := by
  simp [Fp2.inv, Fp2.norm, Fp2.one, one_eq_enc, zero_eq_enc, enc_mul, enc_add, inv_one, enc_neg_zero]

theorem fp2_one_ne_zero : Fp2.one Config.params ≠ Fp2.zero := by
  intro h; exact one_ne_zero (congrArg Fp2.y h)

theorem fp2_one_canonical : Fp2.Canonical Config.params (Fp2.one Config.params) :=
  ⟨zero_canonical, one_canonical⟩

theorem fp2_zero_canonical : Fp2.Canonical Config.params Fp2.zero :=
  ⟨zero_canonical, zero_canonical⟩

/-! ### Representatives -/

/-- The affine image of (x, y, 1, t) is (x, y), in G1. -/
theorem affineOf_ofAffine1 {x y : MontWord} (hx : Fp.Canonical Config.params x)
    (hy : Fp.Canonical Config.params y) :
    affineOf (fpOps Config.params) (Jac.ofAffine (fpOps Config.params) x y) = .pt x y := by
  have hi : Fp.inv Config.params (Fp.one Config.params) = Fp.one Config.params := by
    rw [one_eq_enc, inv_one]
  simp [affineOf, Jac.ofAffine, fpOps, one_ne_zero, hi, mul_one_of_canonical, one_canonical, hx, hy]

/-- The affine image of (x, y, 1, t) is (x, y), in G2. -/
theorem affineOf_ofAffine2 {x y : Fp2} (hx : Fp2.Canonical Config.params x)
    (hy : Fp2.Canonical Config.params y) :
    affineOf (fp2Ops Config.params) (Jac.ofAffine (fp2Ops Config.params) x y) = .pt x y := by
  have hm := fp2_mul_one_of_canonical fp2_one_canonical
  simp [affineOf, Jac.ofAffine, fp2Ops, fp2_one_ne_zero, fp2_inv_one, hm,
    fp2_mul_one_of_canonical hx, fp2_mul_one_of_canonical hy]

/-! ### Bytes -/

theorem toBytes_length (a : MontWord) : (Fp.toBytes Config.params a).length = 32 :=
  bytesBE_length _ _

/-- The integer that the 32 bytes of a limb stand for. -/
theorem beNat_toBytes (a : MontWord) :
    beNat (Fp.toBytes Config.params a) = Fp.val Config.params a := by
  rw [Fp.toBytes, beNat_bytesBE, Nat.mod_eq_of_lt]
  have h := val_lt a
  have := Config.params_valid.p_lt
  unfold montR at this
  norm_num at this ⊢
  omega

/-- Decoding the bytes of a canonical word gives it back (R183). -/
theorem enc_beNat_toBytes {a : MontWord} (h : Fp.Canonical Config.params a) :
    Fp.enc Config.params (beNat (Fp.toBytes Config.params a)) = a := by
  rw [beNat_toBytes, enc_val h]

end Sys2Proof.Laws
end

