-- ==== Sys2Proof/Laws/PerInstr.lean ====
section
/-!
SUPPORT. The fields of an encoded command, instruction by instruction: reading the fields of the encoder's
word gives back the opcode and the fields it was made from (R121, R143).
-/

namespace Sys2Proof.Laws

/-- Each field of the encoded word is the command's. -/
def EncodedFields.Statement (i : Instr) : Prop :=
  opField (encode i) = i.opcode ∧ fieldA (encode i) = i.fields.1 ∧
  fieldB (encode i) = i.fields.2.1 ∧ fieldC (encode i) = i.fields.2.2.1 ∧
  fieldD (encode i) = i.fields.2.2.2

/-- The word as a sum of its fields (R143). -/
theorem packWord_toNat (op : BitVec 8) (a b c d : Field6) :
    (packWord op a b c d).toNat =
      (((op.toNat * 64 + a.toNat) * 64 + b.toNat) * 64 + c.toNat) * 64 + d.toNat := by
  unfold packWord
  simp only [BitVec.toNat_append]
  rw [← Nat.shiftLeft_add_eq_or_of_lt a.isLt, ← Nat.shiftLeft_add_eq_or_of_lt b.isLt,
    ← Nat.shiftLeft_add_eq_or_of_lt c.isLt, ← Nat.shiftLeft_add_eq_or_of_lt d.isLt]
  simp only [Nat.shiftLeft_eq]

theorem packWord_fields (op : BitVec 8) (a b c d : Field6) :
    opField (packWord op a b c d) = op ∧ fieldA (packWord op a b c d) = a ∧
    fieldB (packWord op a b c d) = b ∧ fieldC (packWord op a b c d) = c ∧
    fieldD (packWord op a b c d) = d := by
  have := op.isLt; have := a.isLt; have := b.isLt; have := c.isLt; have := d.isLt
  refine ⟨?_, ?_, ?_, ?_, ?_⟩ <;> apply BitVec.eq_of_toNat_eq <;>
    simp only [opField, fieldA, fieldB, fieldC, fieldD, BitVec.extractLsb'_toNat, packWord_toNat,
      Nat.shiftRight_eq_div_pow] <;> omega

theorem EncodedFields.any (i : Instr) : EncodedFields.Statement i :=
  packWord_fields _ _ _ _ _

theorem EncodedFields.fpAdd (rd ra rb : Field6) : EncodedFields.Statement (.fpAdd rd ra rb) :=
  EncodedFields.any _
theorem EncodedFields.fpSub (rd ra rb : Field6) : EncodedFields.Statement (.fpSub rd ra rb) :=
  EncodedFields.any _
theorem EncodedFields.fpNeg (rd ra : Field6) : EncodedFields.Statement (.fpNeg rd ra) :=
  EncodedFields.any _
theorem EncodedFields.fpMul (rd ra rb : Field6) : EncodedFields.Statement (.fpMul rd ra rb) :=
  EncodedFields.any _
theorem EncodedFields.fpSqr (rd ra : Field6) : EncodedFields.Statement (.fpSqr rd ra) :=
  EncodedFields.any _
theorem EncodedFields.fpInv (rd ra : Field6) : EncodedFields.Statement (.fpInv rd ra) :=
  EncodedFields.any _
theorem EncodedFields.fpZero (rd : Field6) : EncodedFields.Statement (.fpZero rd) :=
  EncodedFields.any _
theorem EncodedFields.fpOne (rd : Field6) : EncodedFields.Statement (.fpOne rd) :=
  EncodedFields.any _
theorem EncodedFields.fpIszero (ra : Field6) : EncodedFields.Statement (.fpIszero ra) :=
  EncodedFields.any _
theorem EncodedFields.fpIsone (ra : Field6) : EncodedFields.Statement (.fpIsone ra) :=
  EncodedFields.any _
theorem EncodedFields.fpEq (ra rb : Field6) : EncodedFields.Statement (.fpEq ra rb) :=
  EncodedFields.any _
theorem EncodedFields.fpMov (rd ra : Field6) : EncodedFields.Statement (.fpMov rd ra) :=
  EncodedFields.any _
theorem EncodedFields.fpEnc (ra : Field6) : EncodedFields.Statement (.fpEnc ra) :=
  EncodedFields.any _
theorem EncodedFields.fpDec (rd : Field6) : EncodedFields.Statement (.fpDec rd) :=
  EncodedFields.any _
theorem EncodedFields.fp2Add (rd ra rb : Field6) : EncodedFields.Statement (.fp2Add rd ra rb) :=
  EncodedFields.any _
theorem EncodedFields.fp2Sub (rd ra rb : Field6) : EncodedFields.Statement (.fp2Sub rd ra rb) :=
  EncodedFields.any _
theorem EncodedFields.fp2Neg (rd ra : Field6) : EncodedFields.Statement (.fp2Neg rd ra) :=
  EncodedFields.any _
theorem EncodedFields.fp2Mul (rd ra rb : Field6) : EncodedFields.Statement (.fp2Mul rd ra rb) :=
  EncodedFields.any _
theorem EncodedFields.fp2Sqr (rd ra : Field6) : EncodedFields.Statement (.fp2Sqr rd ra) :=
  EncodedFields.any _
theorem EncodedFields.fp2Inv (rd ra : Field6) : EncodedFields.Statement (.fp2Inv rd ra) :=
  EncodedFields.any _
theorem EncodedFields.fp2Zero (rd : Field6) : EncodedFields.Statement (.fp2Zero rd) :=
  EncodedFields.any _
theorem EncodedFields.fp2One (rd : Field6) : EncodedFields.Statement (.fp2One rd) :=
  EncodedFields.any _
theorem EncodedFields.fp2Iszero (ra : Field6) : EncodedFields.Statement (.fp2Iszero ra) :=
  EncodedFields.any _
theorem EncodedFields.fp2Isone (ra : Field6) : EncodedFields.Statement (.fp2Isone ra) :=
  EncodedFields.any _
theorem EncodedFields.fp2Eq (ra rb : Field6) : EncodedFields.Statement (.fp2Eq ra rb) :=
  EncodedFields.any _
theorem EncodedFields.fp2Mov (rd ra : Field6) : EncodedFields.Statement (.fp2Mov rd ra) :=
  EncodedFields.any _
theorem EncodedFields.fp2Enc (ra : Field6) : EncodedFields.Statement (.fp2Enc ra) :=
  EncodedFields.any _
theorem EncodedFields.fp2Dec (rd : Field6) : EncodedFields.Statement (.fp2Dec rd) :=
  EncodedFields.any _
theorem EncodedFields.fp2Mulxi (rd ra : Field6) : EncodedFields.Statement (.fp2Mulxi rd ra) :=
  EncodedFields.any _
theorem EncodedFields.fp6Add (rd ra rb : Field6) : EncodedFields.Statement (.fp6Add rd ra rb) :=
  EncodedFields.any _
theorem EncodedFields.fp6Sub (rd ra rb : Field6) : EncodedFields.Statement (.fp6Sub rd ra rb) :=
  EncodedFields.any _
theorem EncodedFields.fp6Neg (rd ra : Field6) : EncodedFields.Statement (.fp6Neg rd ra) :=
  EncodedFields.any _
theorem EncodedFields.fp6Mul (rd ra rb : Field6) : EncodedFields.Statement (.fp6Mul rd ra rb) :=
  EncodedFields.any _
theorem EncodedFields.fp6Sqr (rd ra : Field6) : EncodedFields.Statement (.fp6Sqr rd ra) :=
  EncodedFields.any _
theorem EncodedFields.fp6Inv (rd ra : Field6) : EncodedFields.Statement (.fp6Inv rd ra) :=
  EncodedFields.any _
theorem EncodedFields.fp6Zero (rd : Field6) : EncodedFields.Statement (.fp6Zero rd) :=
  EncodedFields.any _
theorem EncodedFields.fp6One (rd : Field6) : EncodedFields.Statement (.fp6One rd) :=
  EncodedFields.any _
theorem EncodedFields.fp6Iszero (ra : Field6) : EncodedFields.Statement (.fp6Iszero ra) :=
  EncodedFields.any _
theorem EncodedFields.fp6Isone (ra : Field6) : EncodedFields.Statement (.fp6Isone ra) :=
  EncodedFields.any _
theorem EncodedFields.fp6Eq (ra rb : Field6) : EncodedFields.Statement (.fp6Eq ra rb) :=
  EncodedFields.any _
theorem EncodedFields.fp6Mov (rd ra : Field6) : EncodedFields.Statement (.fp6Mov rd ra) :=
  EncodedFields.any _
theorem EncodedFields.fp6Frob (rd ra : Field6) : EncodedFields.Statement (.fp6Frob rd ra) :=
  EncodedFields.any _
theorem EncodedFields.fp6Frobp2 (rd ra : Field6) : EncodedFields.Statement (.fp6Frobp2 rd ra) :=
  EncodedFields.any _
theorem EncodedFields.fp6Frobp4 (rd ra : Field6) : EncodedFields.Statement (.fp6Frobp4 rd ra) :=
  EncodedFields.any _
theorem EncodedFields.fp6Multau (rd ra : Field6) : EncodedFields.Statement (.fp6Multau rd ra) :=
  EncodedFields.any _
theorem EncodedFields.fp12Add (rd ra rb : Field6) : EncodedFields.Statement (.fp12Add rd ra rb) :=
  EncodedFields.any _
theorem EncodedFields.fp12Sub (rd ra rb : Field6) : EncodedFields.Statement (.fp12Sub rd ra rb) :=
  EncodedFields.any _
theorem EncodedFields.fp12Neg (rd ra : Field6) : EncodedFields.Statement (.fp12Neg rd ra) :=
  EncodedFields.any _
theorem EncodedFields.fp12Mul (rd ra rb : Field6) : EncodedFields.Statement (.fp12Mul rd ra rb) :=
  EncodedFields.any _
theorem EncodedFields.fp12Sqr (rd ra : Field6) : EncodedFields.Statement (.fp12Sqr rd ra) :=
  EncodedFields.any _
theorem EncodedFields.fp12Inv (rd ra : Field6) : EncodedFields.Statement (.fp12Inv rd ra) :=
  EncodedFields.any _
theorem EncodedFields.fp12Zero (rd : Field6) : EncodedFields.Statement (.fp12Zero rd) :=
  EncodedFields.any _
theorem EncodedFields.fp12One (rd : Field6) : EncodedFields.Statement (.fp12One rd) :=
  EncodedFields.any _
theorem EncodedFields.fp12Iszero (ra : Field6) : EncodedFields.Statement (.fp12Iszero ra) :=
  EncodedFields.any _
theorem EncodedFields.fp12Isone (ra : Field6) : EncodedFields.Statement (.fp12Isone ra) :=
  EncodedFields.any _
theorem EncodedFields.fp12Eq (ra rb : Field6) : EncodedFields.Statement (.fp12Eq ra rb) :=
  EncodedFields.any _
theorem EncodedFields.fp12Mov (rd ra : Field6) : EncodedFields.Statement (.fp12Mov rd ra) :=
  EncodedFields.any _
theorem EncodedFields.fp12Enc (ra : Field6) : EncodedFields.Statement (.fp12Enc ra) :=
  EncodedFields.any _
theorem EncodedFields.fp12Dec (rd : Field6) : EncodedFields.Statement (.fp12Dec rd) :=
  EncodedFields.any _
theorem EncodedFields.fp12Frob (rd ra : Field6) : EncodedFields.Statement (.fp12Frob rd ra) :=
  EncodedFields.any _
theorem EncodedFields.fp12Frobp2 (rd ra : Field6) : EncodedFields.Statement (.fp12Frobp2 rd ra) :=
  EncodedFields.any _
theorem EncodedFields.fp12Frobp4 (rd ra : Field6) : EncodedFields.Statement (.fp12Frobp4 rd ra) :=
  EncodedFields.any _
theorem EncodedFields.fp12Conj (rd ra : Field6) : EncodedFields.Statement (.fp12Conj rd ra) :=
  EncodedFields.any _
theorem EncodedFields.fp12Exp (rd ra kb : Field6) : EncodedFields.Statement (.fp12Exp rd ra kb) :=
  EncodedFields.any _
theorem EncodedFields.gtBaseexp (rd kb : Field6) : EncodedFields.Statement (.gtBaseexp rd kb) :=
  EncodedFields.any _
theorem EncodedFields.g1Add (rd ra rb : Field6) : EncodedFields.Statement (.g1Add rd ra rb) :=
  EncodedFields.any _
theorem EncodedFields.g1Dbl (rd ra : Field6) : EncodedFields.Statement (.g1Dbl rd ra) :=
  EncodedFields.any _
theorem EncodedFields.g1Neg (rd ra : Field6) : EncodedFields.Statement (.g1Neg rd ra) :=
  EncodedFields.any _
theorem EncodedFields.g1Mul (rd ra kb : Field6) : EncodedFields.Statement (.g1Mul rd ra kb) :=
  EncodedFields.any _
theorem EncodedFields.g1Basemul (rd kb : Field6) : EncodedFields.Statement (.g1Basemul rd kb) :=
  EncodedFields.any _
theorem EncodedFields.g1Aff (rd ra : Field6) : EncodedFields.Statement (.g1Aff rd ra) :=
  EncodedFields.any _
theorem EncodedFields.g1Oncurve (ra : Field6) : EncodedFields.Statement (.g1Oncurve ra) :=
  EncodedFields.any _
theorem EncodedFields.g1Inf (rd : Field6) : EncodedFields.Statement (.g1Inf rd) :=
  EncodedFields.any _
theorem EncodedFields.g1Mov (rd ra : Field6) : EncodedFields.Statement (.g1Mov rd ra) :=
  EncodedFields.any _
theorem EncodedFields.g1Marshal (ra : Field6) : EncodedFields.Statement (.g1Marshal ra) :=
  EncodedFields.any _
theorem EncodedFields.g1Unmarshal (rd : Field6) : EncodedFields.Statement (.g1Unmarshal rd) :=
  EncodedFields.any _
theorem EncodedFields.g1Random (rd kd : Field6) : EncodedFields.Statement (.g1Random rd kd) :=
  EncodedFields.any _
theorem EncodedFields.g2Add (rd ra rb : Field6) : EncodedFields.Statement (.g2Add rd ra rb) :=
  EncodedFields.any _
theorem EncodedFields.g2Dbl (rd ra : Field6) : EncodedFields.Statement (.g2Dbl rd ra) :=
  EncodedFields.any _
theorem EncodedFields.g2Neg (rd ra : Field6) : EncodedFields.Statement (.g2Neg rd ra) :=
  EncodedFields.any _
theorem EncodedFields.g2Mul (rd ra kb : Field6) : EncodedFields.Statement (.g2Mul rd ra kb) :=
  EncodedFields.any _
theorem EncodedFields.g2Basemul (rd kb : Field6) : EncodedFields.Statement (.g2Basemul rd kb) :=
  EncodedFields.any _
theorem EncodedFields.g2Aff (rd ra : Field6) : EncodedFields.Statement (.g2Aff rd ra) :=
  EncodedFields.any _
theorem EncodedFields.g2Oncurve (ra : Field6) : EncodedFields.Statement (.g2Oncurve ra) :=
  EncodedFields.any _
theorem EncodedFields.g2Inf (rd : Field6) : EncodedFields.Statement (.g2Inf rd) :=
  EncodedFields.any _
theorem EncodedFields.g2Mov (rd ra : Field6) : EncodedFields.Statement (.g2Mov rd ra) :=
  EncodedFields.any _
theorem EncodedFields.g2Marshal (ra : Field6) : EncodedFields.Statement (.g2Marshal ra) :=
  EncodedFields.any _
theorem EncodedFields.g2Unmarshal (rd : Field6) : EncodedFields.Statement (.g2Unmarshal rd) :=
  EncodedFields.any _
theorem EncodedFields.g2Random (rd kd : Field6) : EncodedFields.Statement (.g2Random rd kd) :=
  EncodedFields.any _
theorem EncodedFields.miller (rd ra rb : Field6) : EncodedFields.Statement (.miller rd ra rb) :=
  EncodedFields.any _
theorem EncodedFields.finalexp (rd ra : Field6) : EncodedFields.Statement (.finalexp rd ra) :=
  EncodedFields.any _
theorem EncodedFields.pair (rd ra rb : Field6) : EncodedFields.Statement (.pair rd ra rb) :=
  EncodedFields.any _
theorem EncodedFields.pairchk (ra rb : Field6) : EncodedFields.Statement (.pairchk ra rb) :=
  EncodedFields.any _
theorem EncodedFields.fp2Pack (rd ra rb : Field6) : EncodedFields.Statement (.fp2Pack rd ra rb) :=
  EncodedFields.any _
theorem EncodedFields.fp2Get (rd ra sel : Field6) : EncodedFields.Statement (.fp2Get rd ra sel) :=
  EncodedFields.any _
theorem EncodedFields.fp6Pack (rd ra rb rc : Field6) : EncodedFields.Statement (.fp6Pack rd ra rb rc) :=
  EncodedFields.any _
theorem EncodedFields.fp6Get (rd ra sel : Field6) : EncodedFields.Statement (.fp6Get rd ra sel) :=
  EncodedFields.any _
theorem EncodedFields.fp12Pack (rd ra rb : Field6) : EncodedFields.Statement (.fp12Pack rd ra rb) :=
  EncodedFields.any _
theorem EncodedFields.fp12Get (rd ra sel : Field6) : EncodedFields.Statement (.fp12Get rd ra sel) :=
  EncodedFields.any _
theorem EncodedFields.kLd (kd : Field6) : EncodedFields.Statement (.kLd kd) :=
  EncodedFields.any _
theorem EncodedFields.kSt (ka : Field6) : EncodedFields.Statement (.kSt ka) :=
  EncodedFields.any _
theorem EncodedFields.kLdi (kd : Field6) (imm : BitVec 18) : EncodedFields.Statement (.kLdi kd imm) :=
  EncodedFields.any _
theorem EncodedFields.kMov (kd ka : Field6) : EncodedFields.Statement (.kMov kd ka) :=
  EncodedFields.any _

end Sys2Proof.Laws
end

