-- ==== Sys2Proof/Tests/Slice0.lean ====
section
/-!
SUPPORT. Tests: words written out from the encoding tables, the checks of WellFormed, rows of
95_test_vectors, and, for every statement with hypotheses, a state and operands that meet them
(`witness_` and the statement's name).
-/

namespace Sys2Proof.Tests

open Sys2Proof Sys2Proof.Machine Sys2Proof.Laws

/-! ### Decoding -/

/-- One word for every fp command: rows E1, E2, E6, E3, E4, E5 of 95_test_vectors and words packed by hand
from R121, R122 and the opcode map R128. -/
theorem test_decode_fp :
    decode 0x10080040 = .ok (.fpAdd 2 0 1) ∧
    decode 0x110C9180 = .ok (.fpSub 3 9 6) ∧
    decode 0x120C2000 = .ok (.fpNeg 3 2) ∧
    decode 0x130C9180 = .ok (.fpMul 3 9 6) ∧
    decode 0x140C9000 = .ok (.fpSqr 3 9) ∧
    decode 0x15040000 = .ok (.fpInv 1 0) ∧
    decode 0x163C0000 = .ok (.fpZero 15) ∧
    decode 0x170C0000 = .ok (.fpOne 3) ∧
    decode 0x1800F000 = .ok (.fpIszero 15) ∧
    decode 0x19003000 = .ok (.fpIsone 3) ∧
    decode 0x1A004140 = .ok (.fpEq 4 5) ∧
    decode 0x1B0C9000 = .ok (.fpMov 3 9) ∧
    decode 0x1C003000 = .ok (.fpEnc 3) ∧
    decode 0x1D0C0000 = .ok (.fpDec 3) := by
  decide

/-- One word for every fp2 command: rows E7 of 95_test_vectors and words packed by hand
from R121, R122 and the opcode map R128. -/
theorem test_decode_fp2 :
    decode 0x200C9180 = .ok (.fp2Add 3 9 6) ∧
    decode 0x210C9180 = .ok (.fp2Sub 3 9 6) ∧
    decode 0x220C9000 = .ok (.fp2Neg 3 9) ∧
    decode 0x230C9180 = .ok (.fp2Mul 3 9 6) ∧
    decode 0x240C9000 = .ok (.fp2Sqr 3 9) ∧
    decode 0x250C9000 = .ok (.fp2Inv 3 9) ∧
    decode 0x260C0000 = .ok (.fp2Zero 3) ∧
    decode 0x270C0000 = .ok (.fp2One 3) ∧
    decode 0x28003000 = .ok (.fp2Iszero 3) ∧
    decode 0x29003000 = .ok (.fp2Isone 3) ∧
    decode 0x2A003240 = .ok (.fp2Eq 3 9) ∧
    decode 0x2B0C9000 = .ok (.fp2Mov 3 9) ∧
    decode 0x2C003000 = .ok (.fp2Enc 3) ∧
    decode 0x2D0C0000 = .ok (.fp2Dec 3) ∧
    decode 0x2E041000 = .ok (.fp2Mulxi 1 1) := by
  decide

/-- One word for every fp6 command: rows E8 of 95_test_vectors and words packed by hand
from R121, R122 and the opcode map R128. -/
theorem test_decode_fp6 :
    decode 0x300C9180 = .ok (.fp6Add 3 9 6) ∧
    decode 0x310C9180 = .ok (.fp6Sub 3 9 6) ∧
    decode 0x320C9000 = .ok (.fp6Neg 3 9) ∧
    decode 0x330C9180 = .ok (.fp6Mul 3 9 6) ∧
    decode 0x340C9000 = .ok (.fp6Sqr 3 9) ∧
    decode 0x350C9000 = .ok (.fp6Inv 3 9) ∧
    decode 0x360C0000 = .ok (.fp6Zero 3) ∧
    decode 0x370C0000 = .ok (.fp6One 3) ∧
    decode 0x38003000 = .ok (.fp6Iszero 3) ∧
    decode 0x39003000 = .ok (.fp6Isone 3) ∧
    decode 0x3A003240 = .ok (.fp6Eq 3 9) ∧
    decode 0x3B0C9000 = .ok (.fp6Mov 3 9) ∧
    decode 0x3C0C9000 = .ok (.fp6Frob 3 9) ∧
    decode 0x3D0C9000 = .ok (.fp6Frobp2 3 9) ∧
    decode 0x3E1C8000 = .ok (.fp6Frobp4 7 8) ∧
    decode 0x3F0C9000 = .ok (.fp6Multau 3 9) := by
  decide

/-- One word for every fp12 command: rows E9, E10 of 95_test_vectors and words packed by hand
from R121, R122 and the opcode map R128. -/
theorem test_decode_fp12 :
    decode 0x400C9180 = .ok (.fp12Add 3 9 6) ∧
    decode 0x410C9180 = .ok (.fp12Sub 3 9 6) ∧
    decode 0x420C9000 = .ok (.fp12Neg 3 9) ∧
    decode 0x430C9180 = .ok (.fp12Mul 3 9 6) ∧
    decode 0x440C9000 = .ok (.fp12Sqr 3 9) ∧
    decode 0x450C9000 = .ok (.fp12Inv 3 9) ∧
    decode 0x460C0000 = .ok (.fp12Zero 3) ∧
    decode 0x470C0000 = .ok (.fp12One 3) ∧
    decode 0x48003000 = .ok (.fp12Iszero 3) ∧
    decode 0x49003000 = .ok (.fp12Isone 3) ∧
    decode 0x4A003240 = .ok (.fp12Eq 3 9) ∧
    decode 0x4B0C9000 = .ok (.fp12Mov 3 9) ∧
    decode 0x4C003000 = .ok (.fp12Enc 3) ∧
    decode 0x4D0C0000 = .ok (.fp12Dec 3) ∧
    decode 0x500C9000 = .ok (.fp12Frob 3 9) ∧
    decode 0x510C9000 = .ok (.fp12Frobp2 3 9) ∧
    decode 0x520C9000 = .ok (.fp12Frobp4 3 9) ∧
    decode 0x530C9000 = .ok (.fp12Conj 3 9) ∧
    decode 0x54081080 = .ok (.fp12Exp 2 1 2) ∧
    decode 0x55142000 = .ok (.gtBaseexp 5 2) := by
  decide

/-- One word for every g1 command: rows E17, E18, E19 of 95_test_vectors and words packed by hand
from R121, R122 and the opcode map R128. -/
theorem test_decode_g1 :
    decode 0x60081000 = .ok (.g1Add 2 1 0) ∧
    decode 0x610C9000 = .ok (.g1Dbl 3 9) ∧
    decode 0x620C9000 = .ok (.g1Neg 3 9) ∧
    decode 0x630400C0 = .ok (.g1Mul 1 0 3) ∧
    decode 0x640C9000 = .ok (.g1Basemul 3 9) ∧
    decode 0x650C9000 = .ok (.g1Aff 3 9) ∧
    decode 0x66003000 = .ok (.g1Oncurve 3) ∧
    decode 0x670C0000 = .ok (.g1Inf 3) ∧
    decode 0x680C9000 = .ok (.g1Mov 3 9) ∧
    decode 0x69003000 = .ok (.g1Marshal 3) ∧
    decode 0x6A0C0000 = .ok (.g1Unmarshal 3) ∧
    decode 0x6B042000 = .ok (.g1Random 1 2) := by
  decide

/-- One word for every g2 command: rows E21, E20 of 95_test_vectors and words packed by hand
from R121, R122 and the opcode map R128. -/
theorem test_decode_g2 :
    decode 0x700C9180 = .ok (.g2Add 3 9 6) ∧
    decode 0x710C9000 = .ok (.g2Dbl 3 9) ∧
    decode 0x720C9000 = .ok (.g2Neg 3 9) ∧
    decode 0x730C9180 = .ok (.g2Mul 3 9 6) ∧
    decode 0x740C9000 = .ok (.g2Basemul 3 9) ∧
    decode 0x750C9000 = .ok (.g2Aff 3 9) ∧
    decode 0x76003000 = .ok (.g2Oncurve 3) ∧
    decode 0x770C0000 = .ok (.g2Inf 3) ∧
    decode 0x780C9000 = .ok (.g2Mov 3 9) ∧
    decode 0x79009000 = .ok (.g2Marshal 9) ∧
    decode 0x7A240000 = .ok (.g2Unmarshal 9) ∧
    decode 0x7B0C9000 = .ok (.g2Random 3 9) := by
  decide

/-- One word for every pairing command: rows E22, E23 of 95_test_vectors and words packed by hand
from R121, R122 and the opcode map R128. -/
theorem test_decode_pairing :
    decode 0x80181040 = .ok (.miller 6 1 1) ∧
    decode 0x810C9000 = .ok (.finalexp 3 9) ∧
    decode 0x820C9180 = .ok (.pair 3 9 6) ∧
    decode 0x8300E0C0 = .ok (.pairchk 14 3) := by
  decide

/-- One word for every tower command: rows E11, E12, E13, E14, E15, E16 of 95_test_vectors and words packed by hand
from R121, R122 and the opcode map R128. -/
theorem test_decode_tower :
    decode 0x90000040 = .ok (.fp2Pack 0 0 1) ∧
    decode 0x910C0040 = .ok (.fp2Get 3 0 1) ∧
    decode 0x92000042 = .ok (.fp6Pack 0 0 1 2) ∧
    decode 0x93101080 = .ok (.fp6Get 4 1 2) ∧
    decode 0x94000040 = .ok (.fp12Pack 0 0 1) ∧
    decode 0x95040000 = .ok (.fp12Get 1 0 0) := by
  decide

/-- One word for every scalar command: rows E24, E25, E28, E29 of 95_test_vectors and words packed by hand
from R121, R122 and the opcode map R128. -/
theorem test_decode_scalar :
    decode 0xA01C0000 = .ok (.kLd 7) ∧
    decode 0xA1007000 = .ok (.kSt 7) ∧
    decode 0xA2041000 = .ok (.kLdi 1 4096) ∧
    decode 0xA3040000 = .ok (.kMov 1 0) := by
  decide

/-- Rows E31 to E43 of 95_test_vectors: illegal words, each refused for the reason of its row. -/
theorem test_decode_illegal :
    decode 0x00000000 = .error .reservedOp ∧ decode 0xFFFFFFFF = .error .reservedOp ∧
    decode 0x1E000000 = .error .reservedOp ∧ decode 0x4E000000 = .error .reservedOp ∧
    decode 0x84000000 = .error .reservedOp ∧ decode 0x10080041 = .error .unusedField ∧
    decode 0x16000001 = .error .unusedField ∧ decode 0x18040000 = .error .unusedField ∧
    decode 0x10400000 = .error .indexRange ∧ decode 0x15FC0000 = .error .indexRange ∧
    decode 0xA2400000 = .error .indexRange ∧ decode 0x91000080 = .error .selRange ∧
    decode 0x931010C0 = .error .selRange := by
  decide

/-- The opcodes at the edges of the ranges of R137 (a). -/
theorem test_decode_reserved_edges :
    decode 0x0F000000 = .error .reservedOp ∧ decode 0x2F000000 = .error .reservedOp ∧
    decode 0x56000000 = .error .reservedOp ∧ decode 0x5F000000 = .error .reservedOp ∧
    decode 0x6C000000 = .error .reservedOp ∧ decode 0x7F000000 = .error .reservedOp ∧
    decode 0x8F000000 = .error .reservedOp ∧ decode 0x96000000 = .error .reservedOp ∧
    decode 0xA4000000 = .error .reservedOp := by
  decide

/-- Row E30: the pseudo-instruction GT.NEG is FP12.CONJ. -/
theorem test_decode_gt_neg : decode 0x53040000 = .ok (.fp12Conj 1 0) := by decide

/-- The words of rows E9, E14, E23 and E28, from the commands. -/
theorem test_encode :
    encode (.fp12Exp 2 1 2) = 0x54081080 ∧ encode (.fp6Get 4 1 2) = 0x93101080 ∧
    encode (.pairchk 14 3) = 0x8300E0C0 ∧ encode (.kLdi 1 4096) = 0xA2041000 := by
  decide

/-- The bits of the table's word are the command word's bits. -/
theorem test_decodeTableWord : decodeTableWord 32 0x10080040 = some (.fpAdd 2 0 1) := by decide

/-! ### WellFormed refuses -/

/-- A register index that is not below its file's size (R123): a destination, a source, a scalar. -/
theorem test_wellFormed_index :
    (Instr.fpZero 16).wellFormed = false ∧ (Instr.fpAdd 2 0 63).wellFormed = false ∧
    (Instr.g1Mul 1 0 16).wellFormed = false ∧ (Instr.fpZero 15).wellFormed = true := by
  decide

/-- A selector that names no component (R125 (a)). -/
theorem test_wellFormed_sel :
    (Instr.fp2Get 0 0 2).wellFormed = false ∧ (Instr.fp6Get 0 0 3).wellFormed = false ∧
    (Instr.fp12Get 0 0 2).wellFormed = false ∧ (Instr.fp6Get 0 0 2).wellFormed = true := by
  decide

/-! ### Priorities and faults: rows X1 to X17 of 95_test_vectors, from the state after reset -/

/-- Row X1. -/
theorem test_x1_illegal : command 0x15FC0000 State.reset =
    .next { State.reset with fault := 1, finfo := 0x15FC0000 } := rfl

/-- Row X2. -/
theorem test_x2_uninit : command 0x15040000 State.reset =
    .next { State.reset with fault := 2, finfo := 0x15040000 } := rfl

/-- `fp[0]` holds 0. -/
def zeroAtFp0 : State := { State.reset with fp := writeReg State.reset.fp 0 Fp.zero }

/-- Row X3, and FP.ZERO, which makes its state. -/
theorem test_x3_invert_zero : command 0x16000000 State.reset = .next zeroAtFp0 ∧
    command 0x15040000 zeroAtFp0 = .next { zeroAtFp0 with fault := 3, finfo := 0x15040000 } :=
  ⟨rfl, rfl⟩

/-- A window over bytes that nothing has written. -/
def emptyWindow (start len : Word32) : State := { State.reset with bptr := start, blen := len }

/-- Rows X4, X5, X6: the position, then the length, then the bytes. -/
theorem test_x456_window :
    command 0x6A000000 (emptyWindow 4090 10) =
      .next { emptyWindow 4090 10 with fault := 5, finfo := 0x6A000000 } ∧
    command 0x6A000000 (emptyWindow 0 10) = .next { emptyWindow 0 10 with err := 1 } ∧
    command 0x6A000000 (emptyWindow 0 64) =
      .next { emptyWindow 0 64 with fault := 2, finfo := 0x6A000000 } :=
  ⟨rfl, rfl, rfl⟩

/-- Rows X11, X12, X13: one byte too few. -/
theorem test_x11_short :
    command 0x6A000000 (emptyWindow 0 63) = .next { emptyWindow 0 63 with err := 1 } ∧
    command 0x7A000000 (emptyWindow 0 127) = .next { emptyWindow 0 127 with err := 1 } ∧
    command 0x4D000000 (emptyWindow 0 383) = .next { emptyWindow 0 383 with err := 1 } ∧
    command 0x1D000000 (emptyWindow 0 31) = .next { emptyWindow 0 31 with err := 1 } ∧
    command 0x2D000000 (emptyWindow 0 63) = .next { emptyWindow 0 63 with err := 1 } :=
  ⟨rfl, rfl, rfl, rfl, rfl⟩

/-- Lists of the given lengths. -/
def lists (a b : Word32) : State := { State.reset with lena := a, lenb := b }

/-- Rows X7 and X8: the shape of the lists comes before their registers. -/
theorem test_x78_lists :
    command 0x8300F000 (lists 2 2) = .next { lists 2 2 with fault := 4, finfo := 0x8300F000 } ∧
    command 0x83000000 (lists 1 2) = .next { lists 1 2 with fault := 4, finfo := 0x83000000 } ∧
    command 0x83000000 (lists 1 1) = .next { lists 1 1 with fault := 2, finfo := 0x83000000 } :=
  ⟨rfl, rfl, rfl⟩

/-- Row X10: no room for 32 bytes from 4065 on. -/
theorem test_x10_no_room :
    command 0x1C000000 { zeroAtFp0 with bptr := 4065 } =
      .next { zeroAtFp0 with bptr := 4065, fault := 5, finfo := 0x1C000000 } := rfl

/-- Row X14: while halted a write to CMD changes nothing. -/
theorem test_x14_halted : command 0x16000000 { State.reset with fault := 1, finfo := 0 } =
    .next { State.reset with fault := 1, finfo := 0 } := rfl

/-- Rows X15 and X16: ERR returns to 0; a predicate that faults keeps RES. -/
theorem test_x15_x16 :
    command 0x16000000 { State.reset with err := 2 } = .next zeroAtFp0 ∧
    command 0x18000000 { State.reset with res := true } =
      .next { State.reset with res := true, fault := 2, finfo := 0x18000000 } :=
  ⟨rfl, rfl⟩

/-- Row X17: K.ST of 2^256. -/
theorem test_x17_scalar_range :
    let s := { State.reset with k := writeReg State.reset.k 7 (2 ^ 256) }
    command 0xA1007000 s = .next { s with fault := 6, finfo := 0xA1007000 } := rfl

/-- FP.ISZERO of 0 writes RES (R174), and STATUS shows it (R48). -/
theorem test_iszero : command 0x18000000 zeroAtFp0 = .next { zeroAtFp0 with res := true } ∧
    statusWord { zeroAtFp0 with res := true } = 1 := ⟨rfl, rfl⟩

/-- K.LDI with the largest immediate (row E27), and K.LD of no byte, which is 0 (R378). -/
theorem test_kldi_kld :
    command 0xA23FFFFF State.reset =
      .next { State.reset with k := writeReg State.reset.k 15 262143 } ∧
    command 0xA01C0000 State.reset = .next { State.reset with k := writeReg State.reset.k 7 0 } :=
  ⟨rfl, rfl⟩

/-- The next step after State.withFetchWord runs exactly the command placed. -/
theorem test_withFetchWord : step (State.reset.withFetchWord 32 0x16000000) = .next zeroAtFp0 := rfl

/-- Reset (R500) clears the halt and every register. -/
theorem test_reset : step { zeroAtFp0 with fault := 3, host := [.reset] } = .next State.reset := rfl

/-! ### Rows of 95_test_vectors with the candidate parameters CAND-A (93_implementation_defined G1) -/

/-- CAND-A, as far as the rows below use it: p, n, RINV, PPRIME and ξ = i + 3. The fields they do not use are 0. -/
def candA : Params :=
  let base : Params :=
    { p := 0x8fb501e34aa387f9aa6fecb86184dc21ee5b88d120b5b59e185cac6c5e089667
      n := 0x8fb501e34aa387f9aa6fecb86184dc212e8d8e12f82b39241a2ef45b57ac7261
      pPrime := 0x38997ae661c3ef3c2524282f48054c12734b3343ab8513c82387f9007f17daa9
      rInv := 0x1fc5c0956f92f8252eab68888ea1f5150cc65f3bcec8c91bcbb781e36236117d
      xi := Fp2.zero, b2 := Fp2.zero, xiP1d3 := Fp2.zero, xi2P1d3 := Fp2.zero, xiP2d3 := Fp2.zero
      xi2P2d3 := Fp2.zero, xiP1d6 := Fp2.zero, xiP2d6 := Fp2.zero, g1x := 0, g1y := 0
      g2x := Fp2.zero, g2y := Fp2.zero
      millerFn := fun _ _ _ _ => ⟨⟨Fp2.zero, Fp2.zero, Fp2.zero⟩, ⟨Fp2.zero, Fp2.zero, Fp2.zero⟩⟩
      pairFn := fun _ _ _ _ => ⟨⟨Fp2.zero, Fp2.zero, Fp2.zero⟩, ⟨Fp2.zero, Fp2.zero, Fp2.zero⟩⟩
      uParam := 0, beta := 0, latticeBasis := ((0, 0), (0, 0)) }
  { base with xi := ⟨Fp.enc base 1, Fp.enc base 3⟩ }

/-- The Fp2 element x·i + y. -/
def e2 (x y : Nat) : Fp2 := ⟨Fp.enc candA x, Fp.enc candA y⟩

/-- Six integers as an Fp6 element. -/
def e6 (a b c d e f : Nat) : Fp6 := ⟨e2 a b, e2 c d, e2 e f⟩

/-- Rows F2, F3, F6, F7, F9, F10, F11: words of small values, the carry, the borrow, products. -/
theorem test_candA_fp :
    Fp.one candA = 0x704afe1cb55c7806559013479e7b23de11a4772edf4a4a61e7a35393a1f76999 ∧
    Fp.enc candA 2 = 0x50e0fa562015681300b039d6db716b9a34ed658c9ddedf25b6e9fabae5e63ccb ∧
    Fp.add candA (Fp.enc candA (candA.p - 1)) (Fp.one candA) = 0 ∧
    Fp.sub candA 0 (Fp.one candA) =
      0x1f6a03c695470ff354dfd970c309b843dcb711a2416b6b3c30b958d8bc112cce ∧
    Fp.mul candA (Fp.enc candA 2) (Fp.enc candA 3) =
      0x62eded1f159cb03f57a0c0cc30cf66acb06ca7d4b8e6e7d30c6143c453aa1ffa ∧
    Fp.mul candA (Fp.enc candA (candA.p - 1)) (Fp.enc candA (candA.p - 1)) = Fp.one candA ∧
    Fp.sqr candA (Fp.enc candA 3) =
      0x04afe1cb55c7806559013479e7b23de11a4772edf4a4a61e7a35393a1f769990 := by
  decide

/-- Row F17: a product of two large values. -/
theorem test_candA_fp_mul :
    Fp.mul candA
      (Fp.enc candA 0x0123456789abcdef0123456789abcdef0123456789abcdef0123456789abcdef)
      (Fp.enc candA 0x0fedcba9876543210fedcba9876543210fedcba9876543210fedcba987654321) =
      0x6bea54073b44c7863e90a587cd7f331763f536cdc309c5189f1063641f05b5a9 := by
  decide

/-- The reduction behind row F9: m = (T mod R)·PPRIME mod R for T = mont(2)·mont(3); and R2 encodes 2. -/
theorem test_candA_constants :
    (Fp.enc candA 2).toNat * (Fp.enc candA 3).toNat % montR * candA.pPrime % montR =
      0x9464e3aea06b085f0371213249371a0308a2fbbf155a5bbc9291e5a67d7f2ff7 ∧
    Fp.mul candA 2 (Fp.r2 candA) = Fp.enc candA 2 := by
  decide

/-- Rows Q1 to Q5 and Q8. -/
theorem test_candA_fp2 :
    Fp2.mul candA (e2 1 2) (e2 3 4) = e2 10 5 ∧ Fp2.sqr candA (e2 1 2) = e2 4 3 ∧
    Fp2.sub candA (e2 1 2) (e2 3 4) = e2 (candA.p - 2) (candA.p - 2) ∧
    Fp2.add candA (e2 1 2) (e2 3 4) = e2 4 6 ∧ Fp2.neg candA (e2 1 0) = e2 (candA.p - 1) 0 ∧
    Fp2.mulXi candA (e2 1 2) = e2 5 5 := by
  decide

/-- Rows H1, H3, H4, H5. -/
theorem test_candA_fp6 :
    Fp6.add candA (e6 1 2 3 4 5 6) (e6 7 8 9 10 11 12) = e6 8 10 12 14 16 18 ∧
    Fp6.mul candA (e6 1 2 3 4 5 6) (e6 7 8 9 10 11 12) = e6 182 39 259 35 388 3 ∧
    Fp6.sqr candA (e6 1 2 3 4 5 6) = e6 56 21 91 23 130 21 ∧
    Fp6.mulTau candA (e6 1 2 3 4 5 6) = e6 3 4 5 6 5 5 := by
  decide

/-- Rows T3 and T4. -/
theorem test_candA_fp12 :
    Fp12.sqr candA ⟨e6 1 2 3 4 5 6, e6 7 8 9 10 11 12⟩ =
      ⟨e6 364 78 518 70 776 6, e6 615 80 917 (candA.p - 4) 1339 (candA.p - 152)⟩ ∧
    (Fp12.conj candA ⟨e6 1 2 3 4 5 6, e6 7 8 9 10 11 12⟩).y = e6 7 8 9 10 11 12 := by
  decide

/-- Rows F13 and T10b: the bytes of a limb, the last byte last. -/
theorem test_candA_bytes : Fp.toBytes candA (Fp.one candA) = List.replicate 31 0 ++ [1] ∧
    Fp2.toBytes candA (e2 1 2) = List.replicate 31 0 ++ [1] ++ List.replicate 31 0 ++ [2] := by
  decide

/-- Rows G5, G10 and G11. -/
theorem test_candA_curve :
    onCurve1 candA (.pt (Fp.enc candA 1) (Fp.enc candA 2)) = true ∧
    onCurve1 candA (.pt (Fp.enc candA 1) (Fp.enc candA 3)) = false ∧
    onCurve1 candA .inf = true ∧
    Aff.add (fpOps candA) .inf (.pt (Fp.enc candA 1) (Fp.enc candA 2)) =
      .pt (Fp.enc candA 1) (Fp.enc candA 2) := by
  decide

/-- The loop of R282 and R375 reads the bits from the most significant on: 6 is 110. -/
theorem test_bitsMsb : bitsMsb 6 = [true, true, false] ∧ bitsMsb 0 = [] := by decide

/-! ### A state with valid registers -/

/-- A file whose register 0 holds `a` and register 1 holds `b`, both valid, the others not. -/
def twoRegs {α : Type} (zero a b : α) : Vector (Reg α) 16 :=
  writeReg (writeReg (Vector.replicate 16 (Reg.afterReset zero)) 0 a) 1 b

theorem twoRegs_zero {α : Type} (z a b : α) : readReg (twoRegs z a b) 0 = some a := by
  rw [twoRegs, readReg_writeReg_other _ _ (by decide), readReg_writeReg_same _ _ (by decide)]

theorem twoRegs_one {α : Type} (z a b : α) : readReg (twoRegs z a b) 1 = some b := by
  rw [twoRegs, readReg_writeReg_same _ _ (by decide)]

/-- The parameters of the engine. -/
abbrev c : Params := Config.params

/-- G1GEN as a register content. -/
def gen1 : Jac MontWord := Jac.ofAffine (fpOps c) c.g1x c.g1y

/-- G2GEN as a register content. -/
def gen2 : Jac Fp2 := Jac.ofAffine (fp2Ops c) c.g2x c.g2y

/-- Register 0 of every field file holds one and register 1 holds zero; of a point file infinity and the
generator; of `k` 5 and 2^256. -/
def sample : State :=
  { State.reset with
    fp := twoRegs 0 (Fp.one c) Fp.zero
    fp2 := twoRegs Fp2.zero (Fp2.one c) Fp2.zero
    fp6 := twoRegs Fp6.zero (Fp6.one c) Fp6.zero
    fp12 := twoRegs Fp12.zero (Fp12.one c) Fp12.zero
    g1 := twoRegs (Jac.infinity (fpOps c)) (Jac.infinity (fpOps c)) gen1
    g2 := twoRegs (Jac.infinity (fp2Ops c)) (Jac.infinity (fp2Ops c)) gen2
    k := twoRegs 0 5 (2 ^ 256) }

theorem sample_running : halted sample = false := rfl
theorem sample_fp0 : readReg sample.fp 0 = some (Fp.one c) := twoRegs_zero _ _ _
theorem sample_fp1 : readReg sample.fp 1 = some Fp.zero := twoRegs_one _ _ _
theorem sample_fp2_0 : readReg sample.fp2 0 = some (Fp2.one c) := twoRegs_zero _ _ _
theorem sample_fp2_1 : readReg sample.fp2 1 = some Fp2.zero := twoRegs_one _ _ _
theorem sample_fp6_0 : readReg sample.fp6 0 = some (Fp6.one c) := twoRegs_zero _ _ _
theorem sample_fp6_1 : readReg sample.fp6 1 = some Fp6.zero := twoRegs_one _ _ _
theorem sample_fp12_0 : readReg sample.fp12 0 = some (Fp12.one c) := twoRegs_zero _ _ _
theorem sample_fp12_1 : readReg sample.fp12 1 = some Fp12.zero := twoRegs_one _ _ _
theorem sample_g1_0 : readReg sample.g1 0 = some (Jac.infinity (fpOps c)) := twoRegs_zero _ _ _
theorem sample_g1_1 : readReg sample.g1 1 = some gen1 := twoRegs_one _ _ _
theorem sample_g2_0 : readReg sample.g2 0 = some (Jac.infinity (fp2Ops c)) := twoRegs_zero _ _ _
theorem sample_g2_1 : readReg sample.g2 1 = some gen2 := twoRegs_one _ _ _
theorem sample_k0 : readReg sample.k 0 = some 5 := twoRegs_zero _ _ _
theorem sample_k1 : readReg sample.k 1 = some (2 ^ 256) := twoRegs_one _ _ _

theorem gen1_affine : affineOf (fpOps c) gen1 = .pt c.g1x c.g1y :=
  affineOf_ofAffine1 Config.params_valid.g1Gen_point.x_canonical
    Config.params_valid.g1Gen_point.y_canonical

theorem gen2_affine : affineOf (fp2Ops c) gen2 = .pt c.g2x c.g2y :=
  affineOf_ofAffine2 Config.params_valid.g2Gen_point.x_canonical
    Config.params_valid.g2Gen_point.y_canonical

theorem fp6_one_canonical : Fp6.Canonical c (Fp6.one c) :=
  ⟨fp2_zero_canonical, fp2_zero_canonical, fp2_one_canonical⟩

theorem fp6_zero_canonical : Fp6.Canonical c Fp6.zero :=
  ⟨fp2_zero_canonical, fp2_zero_canonical, fp2_zero_canonical⟩

theorem fp6_one_ne_zero : Fp6.one c ≠ Fp6.zero := fun h => fp2_one_ne_zero (congrArg Fp6.z h)

theorem fp12_one_canonical : Fp12.Canonical c (Fp12.one c) := ⟨fp6_zero_canonical, fp6_one_canonical⟩

theorem fp12_zero_canonical : Fp12.Canonical c Fp12.zero := ⟨fp6_zero_canonical, fp6_zero_canonical⟩

theorem fp12_one_ne_zero : Fp12.one c ≠ Fp12.zero := fun h => fp6_one_ne_zero (congrArg Fp12.y h)

theorem gen1_canonical : Jac.All (Fp.Canonical c) gen1 :=
  ⟨Config.params_valid.g1Gen_point.x_canonical, Config.params_valid.g1Gen_point.y_canonical,
    one_canonical, one_canonical⟩

theorem gen2_canonical : Jac.All (Fp2.Canonical c) gen2 :=
  ⟨Config.params_valid.g2Gen_point.x_canonical, Config.params_valid.g2Gen_point.y_canonical,
    fp2_one_canonical, fp2_one_canonical⟩

theorem infinity1_canonical : Jac.All (Fp.Canonical c) (Jac.infinity (fpOps c)) :=
  ⟨zero_canonical, one_canonical, zero_canonical, zero_canonical⟩

theorem infinity2_canonical : Jac.All (Fp2.Canonical c) (Jac.infinity (fp2Ops c)) :=
  ⟨fp2_zero_canonical, fp2_one_canonical, fp2_zero_canonical, fp2_zero_canonical⟩

/-- The window holds exactly the bytes `bs`, from index 0 on. -/
def window (bs : List Byte) : State :=
  { sample with dbuf := memWriteRange [] 0 bs, blen := BitVec.ofNat 32 bs.length }

theorem window_bytes (bs : List Byte) : memReadRange (window bs).dbuf 0 bs.length = some bs :=
  memReadRange_memWriteRange bs [] 0

theorem seven_le : 7 ≤ c.p := seven_le_p

theorem window_blen {bs : List Byte} (h : bs.length < 2 ^ 32) : (window bs).blen.toNat = bs.length := by
  simpa [window] using Nat.mod_eq_of_lt h

/-! ### Witnesses: words, steps, the host -/

theorem witness_DecodeOfEncode : (Instr.fpAdd 15 0 15).wellFormed = true := by decide

theorem witness_EncodeOfDecode : decode 0x9200F042 = .ok (.fp6Pack 0 15 1 2) := by decide

/-- No command is encoded by the word 0. -/
theorem encode_ne_zero (i : Instr) : encode i ≠ 0 := by
  intro h
  have h1 := (EncodedFields.any i).1
  rw [h] at h1
  cases i <;> (simp only [Instr.opcode] at h1; exact absurd h1 (by decide))

theorem witness_IllegalWords : halted State.reset = false ∧
    ∀ i : Instr, i.wellFormed = true → encode i ≠ 0 := ⟨rfl, fun i _ => encode_ne_zero i⟩

theorem witness_StepRunsCommand :
    ({ sample with host := [.writeReg 0 0x16000000] } : State).host = [.writeReg 0 0x16000000] ∧
    halted { sample with host := [.writeReg 0 0x16000000] } = false ∧
    decode 0x16000000 = .ok (.fpZero 0) ∧ Ready (.fpZero 0) sample :=
  ⟨rfl, rfl, by decide, rfl, by decide⟩

/-- The numbers at the edges of each clause. -/
theorem witness_ControlRegisterAccess :
    access (.writeReg 9 7) sample = .next sample ∧ access (.writeReg 1 7) sample = .next sample ∧
    access (.writeReg 4 7) sample = .next sample ∧
    access (.writeReg 5 7) sample = .next { sample with bptr := 7 } ∧
    access (.writeReg 6 7) sample = .next { sample with blen := 7 } ∧
    access (.writeReg 7 7) sample = .next { sample with lena := 7 } ∧
    access (.writeReg 8 7) sample = .next { sample with lenb := 7 } :=
  ⟨rfl, rfl, rfl, rfl, rfl, rfl, rfl⟩

theorem witness_BufferAccess :
    4095 < Config.bufBytes ∧ memRead (memWrite [] 4095 9) 4095 = some 9 ∧
    memRead (memWrite [] 4095 9) 0 = none ∧ Config.bufBytes ≤ 4096 := by decide

/-! ### Witnesses: the control registers and the endings -/

/-- One faulting command, for FaultRegister, FinfoRegister, FaultEntry and ResultFlag. -/
theorem witness_faulting_command :
    command 0x15041000 sample = .next { sample with fault := 3, finfo := 0x15041000 } ∧
    exec (.fpInv 1 1) sample = .next { sample with fault := 3, finfo := 0x15041000 } ∧
    Ready (.fpInv 1 1) sample ∧ halted { sample with fault := 3, finfo := 0x15041000 } = true ∧
    (3 : Word32) ≠ sample.fault := ⟨rfl, rfl, ⟨rfl, by decide⟩, rfl, by decide⟩

theorem witness_FaultRegister :
    command 0x15041000 sample = .next { sample with fault := 3, finfo := 0x15041000 } ∧
    faultCode { sample with fault := 3 } ≠ 0 ∧
    access (.readReg 3) { sample with fault := 3 } = .next { sample with fault := 3, hostData := 3 } ∧
    step { sample with fault := 6 } = .next { sample with fault := 6 } ∧
    ({ sample with fault := 6 } : State).fault.toNat ≤ 6 :=
  ⟨rfl, by decide, rfl, rfl, by decide⟩

theorem witness_FinfoRegister :
    command 0x15041000 sample = .next { sample with fault := 3, finfo := 0x15041000 } ∧
    access (.readReg 4) sample = .next sample := ⟨rfl, rfl⟩

theorem witness_ListLengthsPersist :
    exec (.fpZero 0) sample = .next { sample with fp := writeReg sample.fp 0 Fp.zero } ∧
    access (.writeReg 7 3) sample = .next { sample with lena := 3 } ∧
    access .reset { sample with lena := 3 } = .next State.reset := ⟨rfl, rfl, rfl⟩

theorem witness_OnlyResetLeavesHalt :
    halted { sample with fault := 3, host := [.reset] } = true ∧
    step { sample with fault := 3, host := [.reset] } = .next State.reset ∧
    step { sample with fault := 3, host := [.writeReg 0 0x16000000] } =
      .next { sample with fault := 3 } := ⟨rfl, rfl, rfl⟩

theorem witness_FaultEntry :
    halted { sample with fault := 3 } = true ∧ Ready (.fpInv 1 1) sample ∧
    exec (.fpInv 1 1) sample = .next { sample with fault := 3, finfo := 0x15041000 } ∧
    halted { sample with fault := 3, finfo := 0x15041000 } = true := ⟨rfl, ⟨rfl, by decide⟩, rfl, rfl⟩

theorem witness_ResultFlag :
    exec (.fpZero 0) sample = .next { sample with fp := writeReg sample.fp 0 Fp.zero } ∧
    instrWritesRes (.fpZero 0) = false ∧ exec (.fpDec 0) sample = .next { sample with err := 1 } ∧
    exec (.fpIszero 2) sample = .next { sample with fault := 2, finfo := 0x18002000 } :=
  ⟨rfl, rfl, rfl, rfl⟩

theorem witness_WindowPointers :
    exec (.fpZero 0) sample = .next { sample with fp := writeReg sample.fp 0 Fp.zero } := rfl

/-! ### Witnesses: results -/

theorem witness_FpResults :
    halted sample = false ∧ (15 : Field6).toNat < Config.nFp ∧ (0 : Field6).toNat < Config.nFp ∧
    (1 : Field6).toNat < Config.nFp ∧ readReg sample.fp 0 = some (Fp.one c) ∧
    readReg sample.fp 1 = some Fp.zero ∧ (Fp.one c).toNat < c.p ∧ Fp.zero.toNat < c.p ∧
    Fp.one c ≠ 0 :=
  ⟨rfl, by decide, by decide, by decide, sample_fp0, sample_fp1, one_canonical, zero_canonical,
    one_ne_zero⟩

theorem witness_ConstantResults : halted sample = false ∧ (15 : Field6).toNat < 16 := ⟨rfl, by decide⟩

theorem witness_FieldTestResults :
    halted sample = false ∧ (0 : Field6).toNat < 16 ∧ (1 : Field6).toNat < 16 ∧
    readReg sample.fp 0 = some (Fp.one c) ∧ readReg sample.fp 1 = some Fp.zero ∧
    readReg sample.fp2 0 = some (Fp2.one c) ∧ readReg sample.fp2 1 = some Fp2.zero ∧
    readReg sample.fp6 0 = some (Fp6.one c) ∧ readReg sample.fp6 1 = some Fp6.zero ∧
    readReg sample.fp12 0 = some (Fp12.one c) ∧ readReg sample.fp12 1 = some Fp12.zero :=
  ⟨rfl, by decide, by decide, sample_fp0, sample_fp1, sample_fp2_0, sample_fp2_1, sample_fp6_0,
    sample_fp6_1, sample_fp12_0, sample_fp12_1⟩

/-- The copies. -/
theorem witness_MovePackGetResults_copies :
    halted sample = false ∧ (15 : Field6).toNat < 16 ∧ (0 : Field6).toNat < 16 ∧
    readReg sample.fp 0 = some (Fp.one c) ∧ readReg sample.fp2 0 = some (Fp2.one c) ∧
    readReg sample.fp6 0 = some (Fp6.one c) ∧ readReg sample.fp12 0 = some (Fp12.one c) ∧
    readReg sample.g1 0 = some (Jac.infinity (fpOps c)) ∧
    readReg sample.g2 0 = some (Jac.infinity (fp2Ops c)) ∧ readReg sample.k 0 = some 5 :=
  ⟨rfl, by decide, by decide, sample_fp0, sample_fp2_0, sample_fp6_0, sample_fp12_0, sample_g1_0,
    sample_g2_0, sample_k0⟩

theorem witness_Fp2Results :
    halted sample = false ∧ (15 : Field6).toNat < Config.nFp2 ∧ (0 : Field6).toNat < Config.nFp2 ∧
    (1 : Field6).toNat < Config.nFp2 ∧ readReg sample.fp2 0 = some (Fp2.one c) ∧
    readReg sample.fp2 1 = some Fp2.zero ∧ Fp2.Canonical c (Fp2.one c) ∧ Fp2.Canonical c Fp2.zero ∧
    Fp2.one c ≠ Fp2.zero :=
  ⟨rfl, by decide, by decide, by decide, sample_fp2_0, sample_fp2_1, fp2_one_canonical,
    fp2_zero_canonical, fp2_one_ne_zero⟩

theorem witness_Fp6Results :
    halted sample = false ∧ (15 : Field6).toNat < Config.nFp6 ∧ (0 : Field6).toNat < Config.nFp6 ∧
    (1 : Field6).toNat < Config.nFp6 ∧ readReg sample.fp6 0 = some (Fp6.one c) ∧
    readReg sample.fp6 1 = some Fp6.zero ∧ Fp6.Canonical c (Fp6.one c) ∧ Fp6.Canonical c Fp6.zero ∧
    Fp6.one c ≠ Fp6.zero :=
  ⟨rfl, by decide, by decide, by decide, sample_fp6_0, sample_fp6_1, fp6_one_canonical,
    fp6_zero_canonical, fp6_one_ne_zero⟩

/-- Only `k[0]` is valid: GT.BASEEXP, G1.BASEMUL and G2.BASEMUL read nothing else. -/
def scalarOnly : State := { State.reset with k := writeReg State.reset.k 0 5 }

theorem witness_base_commands :
    halted scalarOnly = false ∧ readReg scalarOnly.k 0 = some 5 ∧ readReg scalarOnly.fp12 0 = none ∧
    readReg scalarOnly.g1 0 = none ∧ readReg scalarOnly.g2 0 = none := ⟨rfl, rfl, rfl, rfl, rfl⟩

theorem witness_Fp12Results :
    halted sample = false ∧ (15 : Field6).toNat < Config.nFp12 ∧ (0 : Field6).toNat < Config.nFp12 ∧
    (1 : Field6).toNat < Config.nFp12 ∧ (0 : Field6).toNat < Config.nK ∧
    readReg sample.fp12 0 = some (Fp12.one c) ∧ readReg sample.fp12 1 = some Fp12.zero ∧
    readReg sample.k 0 = some 5 ∧ Fp12.Canonical c (Fp12.one c) ∧ Fp12.Canonical c Fp12.zero ∧
    Fp12.one c ≠ Fp12.zero :=
  ⟨rfl, by decide, by decide, by decide, by decide, sample_fp12_0, sample_fp12_1, sample_k0,
    fp12_one_canonical, fp12_zero_canonical, fp12_one_ne_zero⟩

/-- The window ends so that exactly the appended bytes still fit. -/
theorem witness_EncoderResults :
    halted sample = false ∧ (0 : Field6).toNat < 16 ∧ readReg sample.fp 0 = some (Fp.one c) ∧
    readReg sample.fp2 0 = some (Fp2.one c) ∧ readReg sample.fp12 0 = some (Fp12.one c) ∧
    readReg sample.k 0 = some 5 ∧ 5 < 2 ^ 256 ∧
    (4000 : Word32).toNat + (64 : Word32).toNat + 32 ≤ Config.bufBytes ∧
    (3648 : Word32).toNat + (64 : Word32).toNat + 384 ≤ Config.bufBytes :=
  ⟨rfl, by decide, sample_fp0, sample_fp2_0, sample_fp12_0, sample_k0, by decide, by decide, by decide⟩

theorem witness_MarshalResults :
    halted sample = false ∧ readReg sample.g1 0 = some (Jac.infinity (fpOps c)) ∧
    (Jac.infinity (fpOps c)).z = 0 ∧ readReg sample.g1 1 = some gen1 ∧
    affineOf (fpOps c) gen1 = .pt c.g1x c.g1y ∧
    readReg sample.g2 0 = some (Jac.infinity (fp2Ops c)) ∧ (Jac.infinity (fp2Ops c)).z = ⟨0, 0⟩ ∧
    readReg sample.g2 1 = some gen2 ∧ affineOf (fp2Ops c) gen2 = .pt c.g2x c.g2y ∧
    sample.bptr.toNat + sample.blen.toNat + 128 ≤ Config.bufBytes :=
  ⟨rfl, sample_g1_0, rfl, sample_g1_1, gen1_affine, sample_g2_0, rfl, sample_g2_1, gen2_affine,
    by decide⟩

/-- The four lengths of DecoderResults, for K.LD the empty window too. -/
theorem witness_DecoderResults :
    (∀ len ∈ [0, 32, 64, 384], let bs := List.replicate len (7 : Byte)
      halted (window bs) = false ∧
      (window bs).bptr.toNat + (window bs).blen.toNat ≤ Config.bufBytes ∧
      len ≤ (window bs).blen.toNat ∧ len = (window bs).blen.toNat ∧
      memReadRange (window bs).dbuf (window bs).bptr.toNat len = some bs) ∧
    (15 : Field6).toNat < 16 := by
  refine ⟨?_, by decide⟩
  intro len hlen
  have hb := window_bytes (List.replicate len (7 : Byte))
  rw [List.length_replicate] at hb
  have hl : len < 2 ^ 32 ∧ len ≤ 4096 := by fin_cases hlen <;> decide
  have hw := window_blen (bs := List.replicate len (7 : Byte)) (by simpa using hl.1)
  rw [List.length_replicate] at hw
  refine ⟨rfl, ?_, hw.ge, hw.symm, hb⟩
  rw [hw]
  simpa [window, sample, State.reset] using hl.2

/-! ### Witnesses: points from bytes -/

/-- The all-zero test of ALLZERO_ON on limbs. -/
def allZero (v : Nat → Nat) (n : Nat) : Prop :=
  match Config.allZeroOn with
  | .bytes => ∀ j, j < n → v j = 0
  | .values => ∀ j, j < n → v j % c.p = 0

theorem allZero_of_zero {v : Nat → Nat} {n : Nat} (h : ∀ j, j < n → v j = 0) : allZero v n := by
  unfold allZero
  split
  · exact h
  · intro j hj; rw [h j hj, Nat.zero_mod]

theorem allZero_mod {v : Nat → Nat} {n : Nat} (h : allZero v n) : ∀ j, j < n → v j % c.p = 0 := by
  unfold allZero at h
  split at h
  · intro j hj; rw [h j hj, Nat.zero_mod]
  · exact h

theorem not_allZero {v : Nat → Nat} {n j : Nat} (hj : j < n) (h : v j % c.p ≠ 0) : ¬ allZero v n := by
  unfold allZero
  split
  · intro hz; exact h (by rw [hz j hj, Nat.zero_mod])
  · intro hz; exact h (hz j hj)

/-- Limb j of a byte string. -/
def limb (bs : List Byte) (j : Nat) : Nat := beNat ((bs.drop (32 * j)).take 32)

/-- The 32 bytes of a small integer. -/
def small (v : Nat) : List Byte := bytesBE v 32

theorem limbs_append {a b : List Byte} (h : a.length = 32) (j : Nat) :
    limb (a ++ b) 0 = beNat a ∧ limb (a ++ b) (j + 1) = limb b j := by
  constructor
  · simp [limb, ← h]
  · have e : 32 * (j + 1) = a.length + 32 * j := by rw [h]; ring
    rw [limb, limb, e, ← List.drop_drop, List.drop_left]

theorem limb_last {a : List Byte} (h : a.length = 32) : limb a 0 = beNat a := by
  simp [limb, ← h]

theorem beNat_small {v : Nat} (h : v < 7) : beNat (small v) = v := by
  rw [small, beNat_bytesBE, Nat.mod_eq_of_lt]; omega

theorem small_mod {v : Nat} (h : v < 7) : v % c.p = v :=
  Nat.mod_eq_of_lt (by have := seven_le; omega)

/-- (1, 2) is on the curve for every p: 4 = 1 + 3. -/
theorem good_1_2 : Fp.mul c (Fp.enc c 2) (Fp.enc c 2) =
    Fp.add c (Fp.mul c (Fp.mul c (Fp.enc c 1) (Fp.enc c 1)) (Fp.enc c 1)) (Fp.enc c 3) := by
  simp only [enc_mul, enc_add]

/-- (1, 3) is not: 9 ≠ 4 modulo p, for p is not 5. -/
theorem bad_1_3 : Fp.mul c (Fp.enc c 3) (Fp.enc c 3) ≠
    Fp.add c (Fp.mul c (Fp.mul c (Fp.enc c 1) (Fp.enc c 1)) (Fp.enc c 1)) (Fp.enc c 3) := by
  simp only [enc_mul, enc_add, Ne, enc_eq_iff]
  intro h
  have hp := Config.params_valid.p_mod
  have h5 : c.p ∣ 5 := (Nat.modEq_iff_dvd' (by decide : 4 ≤ 9)).mp h.symm
  have := Nat.le_of_dvd (by decide) h5
  have := seven_le
  have h12 : c.p % 12 = 7 := hp
  omega

/-- The three outcomes of G1.UNMARSHAL: 64 zero bytes, the bytes of (1, 2), the bytes of (1, 3). -/
theorem witness_UnmarshalResults_g1 :
    (let bs := small 0 ++ small 0
     bs.length = 64 ∧ memReadRange (window bs).dbuf 0 64 = some bs ∧ allZero (limb bs) 2) ∧
    (let bs := small 1 ++ small 2
     bs.length = 64 ∧ memReadRange (window bs).dbuf 0 64 = some bs ∧ ¬ allZero (limb bs) 2 ∧
      Fp.mul c (Fp.enc c (limb bs 1)) (Fp.enc c (limb bs 1)) =
        Fp.add c (Fp.mul c (Fp.mul c (Fp.enc c (limb bs 0)) (Fp.enc c (limb bs 0)))
          (Fp.enc c (limb bs 0))) (Fp.enc c 3)) ∧
    (let bs := small 1 ++ small 3
     bs.length = 64 ∧ memReadRange (window bs).dbuf 0 64 = some bs ∧ ¬ allZero (limb bs) 2 ∧
      Fp.mul c (Fp.enc c (limb bs 1)) (Fp.enc c (limb bs 1)) ≠
        Fp.add c (Fp.mul c (Fp.mul c (Fp.enc c (limb bs 0)) (Fp.enc c (limb bs 0)))
          (Fp.enc c (limb bs 0))) (Fp.enc c 3)) := by
  have h32 : ∀ v, (small v).length = 32 := fun v => bytesBE_length v 32
  have len : ∀ u v, (small u ++ small v).length = 64 := fun u v => by simp [h32]
  have l0 : ∀ {u v : Nat}, u < 7 → limb (small u ++ small v) 0 = u := fun hu => by
    rw [(limbs_append (h32 _) 0).1, beNat_small hu]
  have l1 : ∀ {u v : Nat}, v < 7 → limb (small u ++ small v) 1 = v := fun hv => by
    rw [(limbs_append (h32 _) 0).2, limb_last (h32 _), beNat_small hv]
  have win : ∀ u v, memReadRange (window (small u ++ small v)).dbuf 0 64 = some (small u ++ small v) :=
    fun u v => by have := window_bytes (small u ++ small v); rwa [len] at this
  refine ⟨⟨len _ _, win _ _, allZero_of_zero ?_⟩, ⟨len _ _, win _ _, ?_, ?_⟩, len _ _, win _ _, ?_, ?_⟩
  · intro j hj
    interval_cases j
    · exact l0 (by decide)
    · exact l1 (by decide)
  · exact not_allZero (j := 0) (by decide) (by rw [l0 (by decide), small_mod (by decide)]; decide)
  · rw [l0 (by decide), l1 (by decide)]; exact good_1_2
  · exact not_allZero (j := 0) (by decide) (by rw [l0 (by decide), small_mod (by decide)]; decide)
  · rw [l0 (by decide), l1 (by decide)]; exact bad_1_3

/-- The limbs of four limbs' bytes. -/
theorem four_limbs {a b d e : List Byte} (ha : a.length = 32) (hb : b.length = 32)
    (hd : d.length = 32) (he : e.length = 32) :
    limb (a ++ (b ++ (d ++ e))) 0 = beNat a ∧ limb (a ++ (b ++ (d ++ e))) 1 = beNat b ∧
    limb (a ++ (b ++ (d ++ e))) 2 = beNat d ∧ limb (a ++ (b ++ (d ++ e))) 3 = beNat e := by
  refine ⟨(limbs_append ha 0).1, ?_, ?_, ?_⟩
  · rw [(limbs_append ha 0).2, (limbs_append hb 0).1]
  · rw [(limbs_append ha 1).2, (limbs_append hb 0).2, (limbs_append hd 0).1]
  · rw [(limbs_append ha 2).2, (limbs_append hb 1).2, (limbs_append hd 0).2, limb_last he]

/-- The element of limbs j and j + 1. -/
def pairAt (bs : List Byte) (j : Nat) : Fp2 := ⟨Fp.enc c (limb bs j), Fp.enc c (limb bs (j + 1))⟩

theorem fp2_eq {a b : Fp2} (hx : a.x = b.x) (hy : a.y = b.y) : a = b := by
  cases a; cases b; simp_all

theorem fp2_zero_mul (a : Fp2) : Fp2.mul c Fp2.zero a = Fp2.zero := by
  have e : ∀ w, Fp.mul c 0 w = Fp.enc c 0 := fun w => by
    rw [← zero_eq_enc]; refine BitVec.eq_of_toNat_eq ?_; rw [Fp.mul, reduce_toNat]; simp [Fp.zero]
  have e0 : (Fp.zero : MontWord) = 0 := rfl
  simp only [Fp2.mul, Fp2.zero, e0, e, enc_add, enc_sub_zero]
  rw [← zero_eq_enc, e0]

theorem fp2_zero_add {a : Fp2} (h : Fp2.Canonical c a) : Fp2.add c Fp2.zero a = a := by
  have e : ∀ w, Fp.Canonical c w → Fp.add c Fp.zero w = w := fun w hw => by
    rw [← enc_val hw, zero_eq_enc, enc_add, Nat.zero_add]
  show (⟨Fp.add c Fp.zero a.x, Fp.add c Fp.zero a.y⟩ : Fp2) = a
  rw [e _ h.1, e _ h.2]

/-- The right side of the twist's equation at x = 0. -/
theorem twist_at_zero : Fp2.add c (Fp2.mul c (Fp2.mul c Fp2.zero Fp2.zero) Fp2.zero) c.b2 = c.b2 := by
  rw [fp2_zero_mul, fp2_zero_mul, fp2_zero_add Config.params_valid.b2_canonical]

/-- 3/ξ is not zero. -/
theorem b2_ne_zero : c.b2 ≠ Fp2.zero := by
  intro h
  have e := Config.params_valid.b2_mul
  have e' : Fp2.mul c Fp2.zero c.xi = ⟨Fp.zero, b1 c⟩ := by rw [← h]; exact e
  rw [fp2_zero_mul] at e'
  have e3 : Fp.zero = Fp.enc c 3 := congrArg Fp2.y e'
  rw [zero_eq_enc, enc_eq_iff] at e3
  have := small_mod (v := 3) (by decide)
  have e4 : 0 % c.p = 3 % c.p := e3
  rw [this, Nat.zero_mod] at e4
  exact absurd e4 (by decide)

/-- The origin is not on the twist. -/
theorem origin_off_twist : onCurve2 c (.pt Fp2.zero Fp2.zero) ≠ true := by
  intro h
  have h1 : Fp2.mul c Fp2.zero Fp2.zero =
      Fp2.add c (Fp2.mul c (Fp2.mul c Fp2.zero Fp2.zero) Fp2.zero) c.b2 :=
    of_decide_eq_true (Bool.and_eq_true_iff.mp h).1
  rw [twist_at_zero, fp2_zero_mul] at h1
  exact b2_ne_zero h1.symm

/-- One of (0, 1) and (0, 2) is not on the twist: their squares 1 and 4 cannot both be 3/ξ. -/
theorem bad_twist_point : ∃ v, 1 ≤ v ∧ v ≤ 2 ∧
    Fp2.mul c ⟨Fp.enc c 0, Fp.enc c v⟩ ⟨Fp.enc c 0, Fp.enc c v⟩ ≠ c.b2 := by
  have sq : ∀ v, Fp2.mul c ⟨Fp.enc c 0, Fp.enc c v⟩ ⟨Fp.enc c 0, Fp.enc c v⟩ =
      ⟨Fp.enc c 0, Fp.enc c (v * v)⟩ := fun v => by
    simp [Fp2.mul, enc_mul, enc_add, enc_sub_zero]
  by_cases h : Fp2.mul c ⟨Fp.enc c 0, Fp.enc c 1⟩ ⟨Fp.enc c 0, Fp.enc c 1⟩ = c.b2
  · refine ⟨2, by decide, by decide, fun h2 => ?_⟩
    rw [sq] at h h2
    have e := congrArg Fp2.y (h.trans h2.symm)
    have e4 : 1 % c.p = 4 % c.p := enc_eq_iff.mp e
    rw [small_mod (by decide), small_mod (by decide)] at e4
    exact absurd e4 (by decide)
  · exact ⟨1, by decide, by decide, h⟩

/-- The three outcomes of G2.UNMARSHAL: 128 zero bytes, the bytes of G2GEN, a point off the twist. -/
theorem witness_UnmarshalResults_g2 :
    (let bs := small 0 ++ (small 0 ++ (small 0 ++ small 0))
     bs.length = 128 ∧ memReadRange (window bs).dbuf 0 128 = some bs ∧ allZero (limb bs) 4) ∧
    (let bs := Fp.toBytes c c.g2x.x ++ (Fp.toBytes c c.g2x.y ++
        (Fp.toBytes c c.g2y.x ++ Fp.toBytes c c.g2y.y))
     bs.length = 128 ∧ memReadRange (window bs).dbuf 0 128 = some bs ∧ ¬ allZero (limb bs) 4 ∧
      pairAt bs 0 = c.g2x ∧ pairAt bs 2 = c.g2y ∧ onCurve2 c (.pt (pairAt bs 0) (pairAt bs 2)) = true) ∧
    (∃ v, let bs := small 0 ++ (small 0 ++ (small 0 ++ small v))
     bs.length = 128 ∧ memReadRange (window bs).dbuf 0 128 = some bs ∧ ¬ allZero (limb bs) 4 ∧
      Fp2.mul c (pairAt bs 2) (pairAt bs 2) ≠
        Fp2.add c (Fp2.mul c (Fp2.mul c (pairAt bs 0) (pairAt bs 0)) (pairAt bs 0)) c.b2) := by
  have hg := Config.params_valid.g2Gen_point
  have h32 : ∀ v, (small v).length = 32 := fun v => bytesBE_length v 32
  have t32 : ∀ a, (Fp.toBytes c a).length = 32 := fun a => toBytes_length a
  have win : ∀ bs : List Byte, bs.length = 128 → memReadRange (window bs).dbuf 0 128 = some bs :=
    fun bs h => h ▸ window_bytes bs
  refine ⟨?_, ?_, ?_⟩
  · have len : (small 0 ++ (small 0 ++ (small 0 ++ small 0))).length = 128 := by simp [h32]
    refine ⟨len, win _ len, allZero_of_zero ?_⟩
    obtain ⟨e0, e1, e2, e3⟩ := four_limbs (h32 0) (h32 0) (h32 0) (h32 0)
    have z : beNat (small 0) = 0 := beNat_small (by decide)
    intro j hj
    interval_cases j
    · rw [e0, z]
    · rw [e1, z]
    · rw [e2, z]
    · rw [e3, z]
  · obtain ⟨e0, e1, e2, e3⟩ := four_limbs (t32 c.g2x.x) (t32 c.g2x.y) (t32 c.g2y.x) (t32 c.g2y.y)
    have len : (Fp.toBytes c c.g2x.x ++ (Fp.toBytes c c.g2x.y ++
        (Fp.toBytes c c.g2y.x ++ Fp.toBytes c c.g2y.y))).length = 128 := by simp [t32]
    have p0 : pairAt (Fp.toBytes c c.g2x.x ++ (Fp.toBytes c c.g2x.y ++
        (Fp.toBytes c c.g2y.x ++ Fp.toBytes c c.g2y.y))) 0 = c.g2x := by
      rw [pairAt, e0, e1, enc_beNat_toBytes hg.x_canonical.1, enc_beNat_toBytes hg.x_canonical.2]
    have p2 : pairAt (Fp.toBytes c c.g2x.x ++ (Fp.toBytes c c.g2x.y ++
        (Fp.toBytes c c.g2y.x ++ Fp.toBytes c c.g2y.y))) 2 = c.g2y := by
      rw [pairAt, e2, e3, enc_beNat_toBytes hg.y_canonical.1, enc_beNat_toBytes hg.y_canonical.2]
    refine ⟨len, win _ len, ?_, p0, p2, by rw [p0, p2]; exact hg.on_curve⟩
    intro hz
    have hm := allZero_mod hz
    have v : ∀ {a : MontWord} {j : Nat}, Fp.Canonical c a → j < 4 → limb (Fp.toBytes c c.g2x.x ++
        (Fp.toBytes c c.g2x.y ++ (Fp.toBytes c c.g2y.x ++ Fp.toBytes c c.g2y.y))) j =
        beNat (Fp.toBytes c a) → a = Fp.zero := fun {a j} ha hj hl => by
      have h0 := hm j hj
      rw [hl, beNat_toBytes, Nat.mod_eq_of_lt (val_lt a)] at h0
      rw [← enc_val ha, h0, zero_eq_enc]
    have hx : c.g2x = Fp2.zero := fp2_eq (v hg.x_canonical.1 (by decide) e0)
      (v hg.x_canonical.2 (by decide) e1)
    have hy : c.g2y = Fp2.zero := fp2_eq (v hg.y_canonical.1 (by decide) e2)
      (v hg.y_canonical.2 (by decide) e3)
    have ho := hg.on_curve
    rw [hx, hy] at ho
    exact origin_off_twist ho
  · obtain ⟨w, w1, w2, hw⟩ := bad_twist_point
    refine ⟨w, ?_⟩
    have len : (small 0 ++ (small 0 ++ (small 0 ++ small w))).length = 128 := by simp [h32]
    obtain ⟨e0, e1, e2, e3⟩ := four_limbs (h32 0) (h32 0) (h32 0) (h32 w)
    have z : beNat (small 0) = 0 := beNat_small (by decide)
    have zw : beNat (small w) = w := beNat_small (by omega)
    refine ⟨len, win _ len, not_allZero (j := 3) (by decide) ?_, ?_⟩
    · rw [e3, zw, small_mod (by omega)]; omega
    · have p0 : pairAt (small 0 ++ (small 0 ++ (small 0 ++ small w))) 0 = Fp2.zero := by
        rw [pairAt, e0, e1, z, ← zero_eq_enc]; rfl
      have p2 : pairAt (small 0 ++ (small 0 ++ (small 0 ++ small w))) 2 =
          ⟨Fp.enc c 0, Fp.enc c w⟩ := by
        rw [pairAt, e2, e3, z, zw]
      rw [p0, p2, twist_at_zero]; exact hw


/-! ### Witnesses: components, points, pairing -/

/-- PACK and GET. -/
theorem witness_MovePackGetResults_components :
    halted sample = false ∧ (15 : Field6).toNat < 16 ∧ readReg sample.fp 0 = some (Fp.one c) ∧
    readReg sample.fp 1 = some Fp.zero ∧ readReg sample.fp2 0 = some (Fp2.one c) ∧
    readReg sample.fp2 1 = some Fp2.zero ∧ readReg sample.fp6 0 = some (Fp6.one c) ∧
    readReg sample.fp6 1 = some Fp6.zero ∧ readReg sample.fp12 0 = some (Fp12.one c) :=
  ⟨rfl, by decide, sample_fp0, sample_fp1, sample_fp2_0, sample_fp2_1, sample_fp6_0, sample_fp6_1,
    sample_fp12_0⟩

/-- Register 0 is infinite and register 1 is not: both orders of the operands meet the hypotheses. -/
theorem witness_G1PointResults :
    halted sample = false ∧ (15 : Field6).toNat < 16 ∧ (0 : Field6).toNat < 16 ∧ (1 : Field6).toNat < 16 ∧
    readReg sample.g1 0 = some (Jac.infinity (fpOps c)) ∧ readReg sample.g1 1 = some gen1 ∧
    readReg sample.k 0 = some 5 ∧ Jac.All (Fp.Canonical c) (Jac.infinity (fpOps c)) ∧
    Jac.All (Fp.Canonical c) gen1 ∧ (Jac.infinity (fpOps c)).z = 0 ∧ gen1.z ≠ 0 ∧
    affineOf (fpOps c) gen1 = .pt c.g1x c.g1y :=
  ⟨rfl, by decide, by decide, by decide, sample_g1_0, sample_g1_1, sample_k0, infinity1_canonical,
    gen1_canonical, rfl, one_ne_zero, gen1_affine⟩

theorem witness_G2PointResults :
    halted sample = false ∧ (15 : Field6).toNat < 16 ∧ (0 : Field6).toNat < 16 ∧ (1 : Field6).toNat < 16 ∧
    readReg sample.g2 0 = some (Jac.infinity (fp2Ops c)) ∧ readReg sample.g2 1 = some gen2 ∧
    readReg sample.k 0 = some 5 ∧ Jac.All (Fp2.Canonical c) (Jac.infinity (fp2Ops c)) ∧
    Jac.All (Fp2.Canonical c) gen2 ∧ (Jac.infinity (fp2Ops c)).z = ⟨0, 0⟩ ∧ gen2.z ≠ ⟨0, 0⟩ ∧
    affineOf (fp2Ops c) gen2 = .pt c.g2x c.g2y :=
  ⟨rfl, by decide, by decide, by decide, sample_g2_0, sample_g2_1, sample_k0, infinity2_canonical,
    gen2_canonical, rfl, fp2_one_ne_zero, gen2_affine⟩

theorem witness_OnCurveResults :
    halted sample = false ∧ (0 : Field6).toNat < 16 ∧
    readReg sample.g1 0 = some (Jac.infinity (fpOps c)) ∧ (Jac.infinity (fpOps c)).z = 0 ∧
    readReg sample.g1 1 = some gen1 ∧ affineOf (fpOps c) gen1 = .pt c.g1x c.g1y ∧
    readReg sample.g2 0 = some (Jac.infinity (fp2Ops c)) ∧ (Jac.infinity (fp2Ops c)).z = ⟨0, 0⟩ ∧
    readReg sample.g2 1 = some gen2 ∧ affineOf (fp2Ops c) gen2 = .pt c.g2x c.g2y :=
  ⟨rfl, by decide, sample_g1_0, rfl, sample_g1_1, gen1_affine, sample_g2_0, rfl, sample_g2_1,
    gen2_affine⟩

/-- A waiting scalar (1 and n − 1 are the ends of the range), a waiting failure, nothing waiting. -/
theorem witness_RandomResults :
    halted sample = false ∧ (15 : Field6).toNat < 16 ∧
    ({ sample with entropy := [.scalar 1] } : State).entropy = [.scalar 1] ∧ 1 < c.n ∧
    1 ≤ c.n - 1 ∧ c.n - 1 < c.n ∧
    ({ sample with entropy := [.fail] } : State).entropy = [.fail] ∧ sample.entropy = [] := by
  have h := Config.params_valid.n_prime.two_le
  have h' : 2 ≤ c.n := h
  exact ⟨rfl, by decide, rfl, by omega, by omega, by omega, rfl, rfl⟩

theorem witness_MillerPairResults :
    halted sample = false ∧ (15 : Field6).toNat < 16 ∧ (0 : Field6).toNat < 16 ∧ (1 : Field6).toNat < 16 ∧
    readReg sample.g1 0 = some (Jac.infinity (fpOps c)) ∧ readReg sample.g1 1 = some gen1 ∧
    readReg sample.g2 1 = some gen2 ∧ (Jac.infinity (fpOps c)).z = 0 ∧
    affineOf (fpOps c) gen1 = .pt c.g1x c.g1y ∧ affineOf (fp2Ops c) gen2 = .pt c.g2x c.g2y ∧
    onCurve1 c (.pt c.g1x c.g1y) = true ∧ onCurve2 c (.pt c.g2x c.g2y) = true :=
  ⟨rfl, by decide, by decide, by decide, sample_g1_0, sample_g1_1, sample_g2_1, rfl, gen1_affine,
    gen2_affine, Config.params_valid.g1Gen_point.on_curve, Config.params_valid.g2Gen_point.on_curve⟩

theorem witness_FinalExpResult :
    halted sample = false ∧ (15 : Field6).toNat < Config.nFp12 ∧ (0 : Field6).toNat < Config.nFp12 ∧
    readReg sample.fp12 0 = some (Fp12.one c) ∧ Fp12.one c ≠ Fp12.zero ∧
    ∃ e, e * c.n = c.p ^ 12 - 1 :=
  ⟨rfl, by decide, by decide, sample_fp12_0, fp12_one_ne_zero, _,
    Nat.div_mul_cancel Config.params_valid.n_dvd⟩

/-- Lists of two pairs, the g1 list at the end of its file. -/
def pairLists : State :=
  { sample with
    lena := 2, lenb := 2
    g1 := writeReg (writeReg sample.g1 14 gen1) 15 (Jac.infinity (fpOps c)) }

theorem witness_PairCheckResult :
    halted pairLists = false ∧ (14 : Field6).toNat < Config.nG1 ∧ (0 : Field6).toNat < Config.nG2 ∧
    pairLists.lena = pairLists.lenb ∧ (14 : Field6).toNat + pairLists.lena.toNat ≤ Config.nG1 ∧
    (0 : Field6).toNat + pairLists.lenb.toNat ≤ Config.nG2 ∧
    (let ps := [gen1, Jac.infinity (fpOps c)]
     ps.length = pairLists.lena.toNat ∧ ∀ i (_ : i < ps.length),
      ∃ hn : (14 : Field6).toNat + i < Config.nG1,
        pairLists.g1[(14 : Field6).toNat + i] = ⟨true, ps[i]⟩) ∧
    (let qs := [Jac.infinity (fp2Ops c), gen2]
     qs.length = pairLists.lenb.toNat ∧ ∀ i (_ : i < qs.length),
      ∃ hn : (0 : Field6).toNat + i < Config.nG2,
        pairLists.g2[(0 : Field6).toNat + i] = ⟨true, qs[i]⟩) := by
  refine ⟨rfl, by decide, by decide, rfl, by decide, by decide, ⟨rfl, ?_⟩, rfl, ?_⟩
  · intro i hi
    have h2 : i < 2 := hi
    interval_cases i
    · exact ⟨by decide, rfl⟩
    · exact ⟨by decide, rfl⟩
  · intro i hi
    have h2 : i < 2 := hi
    interval_cases i
    · exact ⟨by decide, rfl⟩
    · exact ⟨by decide, rfl⟩

/-! ### Witnesses: faults and their order -/

theorem witness_UninitOperandFaults :
    Ready (.fpAdd 0 1 2) sample ∧
    (∃ r ∈ instrSources (.fpAdd 0 1 2), registerValid sample r = false) ∧
    Ready (.pairchk 1 1) { sample with lena := 2, lenb := 2 } ∧
    (1 : Field6).toNat + (2 : Word32).toNat ≤ Config.nG1 ∧
    ∃ r, sample.g1[(1 : Field6).toNat + 1]? = some r ∧ r.valid = false :=
  ⟨⟨rfl, by decide⟩, ⟨(.fp, 2), by decide, rfl⟩, ⟨rfl, by decide⟩, by decide, _, rfl, rfl⟩

/-- The zero operands of OperandFaults. -/
theorem witness_OperandFaults_zero :
    halted sample = false ∧ (1 : Field6).toNat < 16 ∧ readReg sample.fp 1 = some 0 ∧
    readReg sample.fp2 1 = some Fp2.zero ∧ readReg sample.fp6 1 = some Fp6.zero ∧
    readReg sample.fp12 1 = some Fp12.zero :=
  ⟨rfl, by decide, sample_fp1, sample_fp2_1, sample_fp6_1, sample_fp12_1⟩

/-- One byte too far, one byte too few, bytes that are not valid; K.LD over bytes that are not valid. -/
theorem witness_WindowChecks :
    Ready (.fpEnc 0) { sample with bptr := 4065 } ∧ 0 < instrAppended (.fpEnc 0) ∧
    (∀ r ∈ instrSources (.fpEnc 0), registerValid { sample with bptr := 4065 } r = true) ∧
    Config.bufBytes < (4065 : Word32).toNat + (0 : Word32).toNat + instrAppended (.fpEnc 0) ∧
    Ready (.fpDec 0) (emptyWindow 4090 10) ∧ 0 < instrNeeded (.fpDec 0) ∧
    Config.bufBytes < (4090 : Word32).toNat + (10 : Word32).toNat ∧
    (0 : Word32).toNat + (31 : Word32).toNat ≤ Config.bufBytes ∧
    (31 : Word32).toNat < instrNeeded (.fpDec 0) ∧ instrNeeded (.fpDec 0) ≤ (32 : Word32).toNat ∧
    memRead (emptyWindow 0 32).dbuf 0 = none ∧ Ready (.kLd 0) (emptyWindow 0 32) := by
  refine ⟨⟨rfl, by decide⟩, by decide, ?_, by decide, ⟨rfl, by decide⟩, by decide, by decide,
    by decide, by decide, by decide, rfl, rfl, by decide⟩
  intro r hr
  rw [List.mem_singleton.mp hr]
  rfl

/-- The scalar and the lists of OperandFaults. -/
theorem witness_OperandFaults_range :
    Ready (.kSt 1) sample ∧ readReg sample.k 1 = some (2 ^ 256) ∧
    sample.bptr.toNat + sample.blen.toNat + 32 ≤ Config.bufBytes ∧ 2 ^ 256 ≤ 2 ^ 256 ∧
    Ready (.pairchk 15 0) (lists 2 2) ∧ Config.nG1 < (15 : Field6).toNat + (lists 2 2).lena.toNat ∧
    Ready (.pairchk 0 0) (lists 1 2) ∧ (lists 1 2).lena ≠ (lists 1 2).lenb ∧
    Ready (.pairchk 0 15) (lists 2 2) ∧ Config.nG2 < (15 : Field6).toNat + (lists 2 2).lenb.toNat :=
  ⟨⟨rfl, by decide⟩, sample_k1, by decide, le_rfl, ⟨rfl, by decide⟩, by decide, ⟨rfl, by decide⟩,
    by decide, ⟨rfl, by decide⟩, by decide⟩

theorem witness_ThreeEndings : Ready (.fpZero 0) sample ∧
    exec (.fpZero 0) sample = .next { sample with fp := writeReg sample.fp 0 Fp.zero } ∧
    exec (.fpDec 0) sample = .next { sample with err := 1 } ∧
    exec (.fpInv 1 1) sample = .next { sample with fault := 3, finfo := 0x15041000 } :=
  ⟨⟨rfl, by decide⟩, rfl, rfl, rfl⟩

theorem witness_RegisterFrame :
    exec (.fpMov 2 1) sample = .next { sample with fp := writeReg sample.fp 2 Fp.zero } ∧
    (FileName.fp, (1 : Field6)) ∉ instrDests (.fpMov 2 1) ∧ instrWritesRes (.fpMov 2 1) = false ∧
    instrAppended (.fpMov 2 1) = 0 ∧ instrNeeded (.fpMov 2 1) = 0 := by
  refine ⟨rfl, by decide, rfl, rfl, rfl⟩

theorem witness_MemoryFrame :
    exec (.kSt 0) sample = .next
      { sample with blen := 32, dbuf := memWriteRange sample.dbuf 0 (bytesBE 5 32) } ∧
    windowEnd sample + instrAppended (.kSt 0) ≤ 32 ∧ instrAppended (.fpZero 0) = 0 := by
  exact ⟨rfl, by decide, rfl⟩

/-! ### Witnesses: invariants -/

theorem readReg_twoRegs {α : Type} {z a b x : α} {f : Field6}
    (h : readReg (twoRegs z a b) f = some x) : x = a ∨ x = b := by
  by_cases h1 : f = 1
  · subst h1; rw [twoRegs_one] at h; exact .inr (Option.some.inj h).symm
  · by_cases h0 : f = 0
    · subst h0; rw [twoRegs_zero] at h; exact .inl (Option.some.inj h).symm
    · rw [twoRegs, readReg_writeReg_other _ _ (Ne.symm h1), readReg_writeReg_other _ _ (Ne.symm h0),
        readReg_eq_some] at h
      obtain ⟨hn, hv, _⟩ := h
      simp [Reg.afterReset] at hv

theorem sample_inv : Inv sample where
  memory_wf := rfl
  memory_inside := by intro x hx; exact absurd hx (by simp [sample, State.reset])
  fp_canonical := fun f a h => by
    rcases readReg_twoRegs h with rfl | rfl
    exacts [one_canonical, zero_canonical]
  fp2_canonical := fun f a h => by
    rcases readReg_twoRegs h with rfl | rfl
    exacts [fp2_one_canonical, fp2_zero_canonical]
  fp6_canonical := fun f a h => by
    rcases readReg_twoRegs h with rfl | rfl
    exacts [fp6_one_canonical, fp6_zero_canonical]
  fp12_canonical := fun f a h => by
    rcases readReg_twoRegs h with rfl | rfl
    exacts [fp12_one_canonical, fp12_zero_canonical]
  g1_canonical := fun f a h => by
    rcases readReg_twoRegs h with rfl | rfl
    exacts [infinity1_canonical, gen1_canonical]
  g2_canonical := fun f a h => by
    rcases readReg_twoRegs h with rfl | rfl
    exacts [infinity2_canonical, gen2_canonical]
  fault_code := by decide
  err_code := by decide

theorem sample_g1OnCurve : G1OnCurve sample := fun f j h => by
  rcases readReg_twoRegs h with rfl | rfl
  · rfl
  · show onCurve1 c (affineOf (fpOps c) gen1) = true
    rw [gen1_affine]; exact Config.params_valid.g1Gen_point.on_curve

theorem sample_g2OnTwist : G2OnTwist sample := fun f j h => by
  rcases readReg_twoRegs h with rfl | rfl
  · rfl
  · show onTwist (affineOf (fp2Ops c) gen2) = true
    rw [gen2_affine]
    exact (Bool.and_eq_true_iff.mp Config.params_valid.g2Gen_point.on_curve).1

/-- For StepKeepsCanonicalState, StepKeepsG1OnCurve and StepKeepsG2OnTwist: a step that makes infinity
from two valid registers. -/
theorem witness_StepKeeps :
    Inv sample ∧ G1OnCurve sample ∧ G2OnTwist sample ∧
    step (sample.withFetchWord 32 0x60080040) =
      .next { sample with g1 := writeReg sample.g1 2 gen1 } ∧
    step sample = .next sample := ⟨sample_inv, sample_g1OnCurve, sample_g2OnTwist, rfl, rfl⟩

theorem sample_g2InSubgroup : G2InSubgroup sample := fun f j h => by
  rcases readReg_twoRegs h with rfl | rfl
  · rfl
  · show onCurve2 c (affineOf (fp2Ops c) gen2) = true
    rw [gen2_affine]
    exact Config.params_valid.g2Gen_point.on_curve

/-- A step that adds G2GEN to infinity, and the step that keeps everything. -/
theorem witness_StepKeepsG2InSubgroup :
    Inv sample ∧ G2InSubgroup sample ∧
    step (sample.withFetchWord 32 0x70080040) =
      .next { sample with g2 := writeReg sample.g2 2 gen2 } ∧ step sample = .next sample :=
  ⟨sample_inv, sample_g2InSubgroup, rfl, rfl⟩

/-- `sample` with another T in the representative of G1GEN. -/
def otherT : State :=
  { sample with g1 := twoRegs (Jac.infinity (fpOps c)) (Jac.infinity (fpOps c)) { gen1 with t := 0 } }

theorem witness_RepresentativesInvisible :
    SameImages sample otherT ∧ gen1 ≠ { gen1 with t := 0 } ∧ step sample = .next sample := by
  refine ⟨⟨rfl, ?_, fun f => rfl⟩, fun h => one_ne_zero (congrArg Jac.t h), rfl⟩
  intro f
  show (readReg (twoRegs _ _ _) f).map _ = (readReg (twoRegs _ _ _) f).map _
  by_cases h1 : f = 1
  · subst h1; rw [twoRegs_one, twoRegs_one]; rfl
  · rw [twoRegs, twoRegs, readReg_writeReg_other _ _ (Ne.symm h1), readReg_writeReg_other _ _ (Ne.symm h1)]

/-! ### Witnesses: arithmetic -/

theorem witness_FpFieldLaws : Fp.Canonical c (Fp.one c) ∧ Fp.Canonical c Fp.zero ∧ Fp.one c ≠ 0 :=
  ⟨one_canonical, zero_canonical, one_ne_zero⟩

theorem witness_ConversionRoundTrip :
    c.p - 1 < c.p ∧ Fp.Canonical c (Fp.one c) ∧ 2 ^ 256 - 1 < 2 ^ 256 :=
  ⟨Nat.sub_lt (lt_of_lt_of_le (by decide) seven_le) (by decide), one_canonical, by decide⟩

/-- For Fp2FieldLaws and the second part of MultiplierForms. -/
theorem witness_Fp2FieldLaws :
    Fp2.Canonical c (Fp2.one c) ∧ Fp2.Canonical c Fp2.zero ∧ Fp2.one c ≠ Fp2.zero :=
  ⟨fp2_one_canonical, fp2_zero_canonical, fp2_one_ne_zero⟩

/-- For Fp6FieldLaws and FrobeniusLaws. -/
theorem witness_Fp6FieldLaws :
    Fp6.Canonical c (Fp6.one c) ∧ Fp6.Canonical c Fp6.zero ∧ Fp6.one c ≠ Fp6.zero :=
  ⟨fp6_one_canonical, fp6_zero_canonical, fp6_one_ne_zero⟩

/-- For Fp12FieldLaws, ExponentLaws, FrobeniusLaws, FrobeniusIsPower and FinalExpLaws. -/
theorem witness_Fp12FieldLaws :
    Fp12.Canonical c (Fp12.one c) ∧ Fp12.Canonical c Fp12.zero ∧ Fp12.one c ≠ Fp12.zero :=
  ⟨fp12_one_canonical, fp12_zero_canonical, fp12_one_ne_zero⟩

theorem reduction_constant {p r R : Nat} (hp : 0 < p) (hR : 0 < R) (hr : r < p)
    (h : r * R % p = 1) : ∃ q, q < R ∧ (p * q + 1) % R = 0 := by
  have hd := Nat.div_add_mod (r * R) p
  rw [h] at hd
  refine ⟨r * R / p, ?_, ?_⟩
  · rw [Nat.div_lt_iff_lt_mul hp, Nat.mul_comm R]
    exact Nat.mul_lt_mul_of_pos_right hr hR
  · rw [hd]; exact Nat.mul_mod_left _ _

theorem montR_pos : 0 < montR := by unfold montR; positivity

theorem reduction_constant_of_valid {q : Params} (h : q.Valid) :
    ∃ v, v < montR ∧ (q.p * v + 1) % montR = 0 :=
  reduction_constant (R := montR) h.p_prime.pos montR_pos h.rInv_lt h.rInv_mul

/-- The constant of the reduction exists: (R·RINV − 1)/p. -/
theorem witness_MultiplierForms : ∃ v, v < montR ∧ (c.p * v + 1) % montR = 0 :=
  reduction_constant_of_valid Config.params_valid

theorem runCommand_next (i : Instr) (s : State) (e : Ending) : ∃ t, runCommand i s e = .next t := by
  rcases runCommand_cases i s e with h | h | h
  · exact ⟨_, h.2⟩
  · exact ⟨_, h.2.2⟩
  · obtain ⟨_, _, ⟨t, _, h⟩ | ⟨k, _, h⟩ | ⟨k, t, _, h⟩⟩ := h <;> exact ⟨_, h⟩

theorem marshal_next (ra : Field6) : (∃ t, exec (.g1Marshal ra) sample = .next t) ∧
    ∃ t, exec (.g2Marshal ra) sample = .next t := by
  unfold exec execG1Marshal execG2Marshal
  exact ⟨runCommand_next _ _ _, runCommand_next _ _ _⟩

/-- For PointGroupLaws, MultiplesModOrder and the sums of G1PointResults and G2PointResults: the generators and
INF are points of their groups. -/
theorem witness_PointGroupLaws :
    (Aff.All (Fp.Canonical c) (.pt c.g1x c.g1y) ∧ onCurve1 c (.pt c.g1x c.g1y) = true) ∧
    (Aff.All (Fp.Canonical c) .inf ∧ onCurve1 c .inf = true) ∧
    (Aff.All (Fp2.Canonical c) (.pt c.g2x c.g2y) ∧ onTwist (.pt c.g2x c.g2y) = true) ∧
    (Aff.All (Fp2.Canonical c) .inf ∧ onTwist .inf = true) ∧
    onCurve2 c (.pt c.g2x c.g2y) = true := by
  have h1 := Config.params_valid.g1Gen_point
  have h2 := Config.params_valid.g2Gen_point
  exact ⟨⟨⟨h1.x_canonical, h1.y_canonical⟩, h1.on_curve⟩, ⟨trivial, rfl⟩,
    ⟨⟨h2.x_canonical, h2.y_canonical⟩, (Bool.and_eq_true_iff.mp h2.on_curve).1⟩, ⟨trivial, rfl⟩,
    h2.on_curve⟩

/-- Both points of `sample`, the window empty at index 0. -/
theorem witness_PointRoundTrips_g1 :
    Ready (.g1Marshal 0) sample ∧ Ready (.g1Marshal 1) sample ∧ (15 : Field6).toNat < Config.nG1 ∧
    readReg sample.g1 0 = some (Jac.infinity (fpOps c)) ∧ readReg sample.g1 1 = some gen1 ∧
    Jac.All (Fp.Canonical c) (Jac.infinity (fpOps c)) ∧ Jac.All (Fp.Canonical c) gen1 ∧
    onCurve1 c (affineOf (fpOps c) (Jac.infinity (fpOps c))) = true ∧
    onCurve1 c (affineOf (fpOps c) gen1) = true ∧ windowEnd sample + 64 ≤ Config.bufBytes ∧
    (∃ t, exec (.g1Marshal 0) sample = .next t) ∧ ∃ t, exec (.g1Marshal 1) sample = .next t :=
  ⟨⟨rfl, by decide⟩, ⟨rfl, by decide⟩, by decide, sample_g1_0, sample_g1_1, infinity1_canonical,
    gen1_canonical, rfl, by rw [gen1_affine]; exact Config.params_valid.g1Gen_point.on_curve,
    by decide, (marshal_next 0).1, (marshal_next 1).1⟩

theorem witness_PointRoundTrips_g2 :
    Ready (.g2Marshal 0) sample ∧ Ready (.g2Marshal 1) sample ∧
    readReg sample.g2 0 = some (Jac.infinity (fp2Ops c)) ∧ readReg sample.g2 1 = some gen2 ∧
    Jac.All (Fp2.Canonical c) (Jac.infinity (fp2Ops c)) ∧ Jac.All (Fp2.Canonical c) gen2 ∧
    onCurve2 c (affineOf (fp2Ops c) (Jac.infinity (fp2Ops c))) = true ∧
    onCurve2 c (affineOf (fp2Ops c) gen2) = true ∧ windowEnd sample + 128 ≤ Config.bufBytes ∧
    (∃ t, exec (.g2Marshal 0) sample = .next t) ∧ ∃ t, exec (.g2Marshal 1) sample = .next t :=
  ⟨⟨rfl, by decide⟩, ⟨rfl, by decide⟩, sample_g2_0, sample_g2_1, infinity2_canonical,
    gen2_canonical, rfl, by rw [gen2_affine]; exact Config.params_valid.g2Gen_point.on_curve,
    by decide, (marshal_next 0).2, (marshal_next 1).2⟩

/-- The limbs of zero bytes are below p. -/
theorem zero_limbs (len m : Nat) :
    ∀ j, j < m → beNat (((List.replicate len (0 : Byte)).drop (32 * j)).take 32) < c.p := by
  intro j _
  have z : ∀ k, beNat (List.replicate k (0 : Byte)) = 0 := by
    intro k
    induction k with
    | zero => rfl
    | succ k ih => simpa [List.replicate_succ, beNat] using ih
  rw [List.drop_replicate, List.take_replicate, z]
  exact lt_of_lt_of_le (by decide) seven_le

/-- A decoder over zero bytes, for the second half of PointRoundTrips and of FieldRoundTrips: an accepted
all-zero pattern is infinity, and zero bytes decode to zero. -/
theorem witness_decode_zero_bytes :
    ∀ len ∈ [32, 64, 128, 384], let bs := List.replicate len (0 : Byte)
      halted (window bs) = false ∧ windowEnd (window bs) ≤ Config.bufBytes ∧
      len ≤ (window bs).blen.toNat ∧
      memReadRange (window bs).dbuf (window bs).bptr.toNat len = some bs ∧
      ∀ j, j < len / 32 → beNat ((bs.drop (32 * j)).take 32) < c.p := by
  intro len hlen
  have hb := window_bytes (List.replicate len (0 : Byte))
  rw [List.length_replicate] at hb
  have hl : len < 2 ^ 32 ∧ len ≤ 4096 := by fin_cases hlen <;> decide
  have hw := window_blen (bs := List.replicate len (0 : Byte)) (by simpa using hl.1)
  rw [List.length_replicate] at hw
  refine ⟨rfl, ?_, hw.ge, hb, zero_limbs _ _⟩
  rw [windowEnd, hw]
  simpa [window, sample, State.reset] using hl.2

/-- The accepted pattern answers a next state with ERR 0. -/
theorem witness_PointRoundTrips_accepted :
    ∃ t, exec (.g1Unmarshal 3) (window (List.replicate 64 0)) = .next t ∧ t.err = 0 := by
  have hz : allZeroPattern 2 (List.replicate 64 0) = true := by
    unfold allZeroPattern
    have l : ∀ j ∈ List.range 2, limbNat (List.replicate 64 0) j = 0 := by decide
    split
    · exact List.all_eq_true.2 fun j hj => by rw [l j hj]; rfl
    · exact List.all_eq_true.2 fun j hj => by rw [l j hj, Nat.zero_mod]; rfl
  have hb := window_bytes (List.replicate 64 (0 : Byte))
  rw [List.length_replicate] at hb
  show ∃ t, execG1Unmarshal 3 (window (List.replicate 64 0)) = .next t ∧ t.err = 0
  unfold execG1Unmarshal
  rw [runCommand_legal _ _ _ rfl (by decide)]
  rcases pointDecode_cases g1Group 64 (allZeroPattern 2) _ 3 (window (List.replicate 64 0)) with
    ⟨h, _⟩ | ⟨_, h, _⟩ | ⟨_, _, h, _⟩ | ⟨bs, _, _, h, e⟩
  · exact absurd h (by decide)
  · exact absurd h (by decide)
  · exact absurd (h.symm.trans hb) (by simp)
  · have hbs : bs = List.replicate 64 0 := Option.some.inj (h.symm.trans hb)
    subst hbs
    rcases e with ⟨_, e⟩ | ⟨e0, _⟩ | ⟨e0, _⟩
    · exact ⟨_, by rw [e]; rfl, rfl⟩
    · rw [hz] at e0; exact absurd e0 (by simp)
    · rw [hz] at e0; exact absurd e0 (by simp)

/-- The encoders of FieldRoundTrips, the window empty at index 0. -/
theorem witness_FieldRoundTrips :
    Ready (.fpEnc 0) sample ∧ Ready (.fp2Enc 0) sample ∧ Ready (.fp12Enc 0) sample ∧
    Ready (.kSt 0) sample ∧ readReg sample.fp 0 = some (Fp.one c) ∧
    readReg sample.fp2 0 = some (Fp2.one c) ∧ readReg sample.fp12 0 = some (Fp12.one c) ∧
    readReg sample.k 0 = some 5 ∧ Fp.Canonical c (Fp.one c) ∧ Fp2.Canonical c (Fp2.one c) ∧
    Fp12.Canonical c (Fp12.one c) ∧ 5 < 2 ^ 256 ∧ windowEnd sample + 384 ≤ Config.bufBytes ∧
    (∃ t, exec (.fpEnc 0) sample = .next t) ∧ (∃ t, exec (.fp2Enc 0) sample = .next t) ∧
    (∃ t, exec (.fp12Enc 0) sample = .next t) ∧ ∃ t, exec (.kSt 0) sample = .next t := by
  refine ⟨⟨rfl, by decide⟩, ⟨rfl, by decide⟩, ⟨rfl, by decide⟩, ⟨rfl, by decide⟩, sample_fp0,
    sample_fp2_0, sample_fp12_0, sample_k0, one_canonical, fp2_one_canonical, fp12_one_canonical,
    by decide, by decide, ?_, ?_, ?_, ?_⟩
  · simp only [exec, execFpEnc]; exact runCommand_next _ _ _
  · simp only [exec, execFp2Enc]; exact runCommand_next _ _ _
  · simp only [exec, execFp12Enc]; exact runCommand_next _ _ _
  · simp only [exec, execKSt]; exact runCommand_next _ _ _

end Sys2Proof.Tests
end

section
/-!
What a command can do to the window (BPTR, BLEN) and to DBUF: nothing, one `Consume`, or one
`Append` (R21). Proved once for each shape of Machine/Shapes.lean; each command then cites its shape.
-/

namespace Sys2Proof.Proofs

open Sys2Proof Sys2Proof.Machine Sys2Proof.Laws

/-- The window and DBUF of two states agree. -/
structure SameWindow (s t : State) : Prop where
  bptr : t.bptr = s.bptr
  blen : t.blen = s.blen
  dbuf : t.dbuf = s.dbuf

theorem SameWindow.refl (s : State) : SameWindow s s := ⟨rfl, rfl, rfl⟩

theorem SameWindow.windowEnd_eq {s t : State} (h : SameWindow s t) : windowEnd t = windowEnd s := by
  rw [windowEnd, windowEnd, h.bptr, h.blen]

/-- The number of bytes a command may consume: what a decoder needs (R92), or K.LD's whole window
(R378). -/
def Consumes (i : Instr) (s : State) (len : Nat) : Prop :=
  len = instrNeeded i ∨ ∃ kd, i = .kLd kd ∧ len = s.blen.toNat

/-- The three things that a command `i` can do to the window and to DBUF (R21). -/
inductive WindowMove (i : Instr) (s t : State) : Prop
  | kept (same : SameWindow s t)
  | consumed (len : Nat) (amount : Consumes i s len) (inside : len ≤ s.blen.toNat)
      (bptr : t.bptr.toNat = s.bptr.toNat + len) (blen : t.blen.toNat = s.blen.toNat - len)
      (dbuf : t.dbuf = s.dbuf)
  | appended (bytes : List Byte) (amount : bytes.length = instrAppended i) (bptr : t.bptr = s.bptr)
      (blen : t.blen.toNat = s.blen.toNat + bytes.length)
      (dbuf : t.dbuf = memWriteRange s.dbuf (windowEnd s) bytes)

theorem WindowMove.trans_same {i : Instr} {s t u : State} (h : WindowMove i s t)
    (same : SameWindow t u) : WindowMove i s u := by
  obtain ⟨hp, hl, hd⟩ := same
  cases h with
  | kept h => exact .kept ⟨hp.trans h.bptr, hl.trans h.blen, hd.trans h.dbuf⟩
  | consumed len amount inside bptr blen dbuf =>
    exact .consumed len amount inside (hp ▸ bptr) (hl ▸ blen) (hd ▸ dbuf)
  | appended bytes amount bptr blen dbuf =>
    exact .appended bytes amount (hp ▸ bptr) (hl ▸ blen) (hd ▸ dbuf)

/-- `Consume` of the bytes that `withWindow` has checked moves the window and wraps nothing. -/
theorem consume_moves {i : Instr} {s t : State} {len : Nat} (amount : Consumes i s len)
    (room : windowEnd s ≤ Config.bufBytes) (inside : len ≤ s.blen.toNat) (same : SameWindow s t) :
    WindowMove i s (consume len t) := by
  obtain ⟨hp, hl⟩ := consume_window (s := t) (same.windowEnd_eq ▸ room) (same.blen ▸ inside)
  exact .consumed len amount inside (same.bptr ▸ hp) (same.blen ▸ hl) same.dbuf

/-- `Append` of the bytes that `withRoom` has checked lengthens the window and wraps nothing. -/
theorem append_moves {i : Instr} {s : State} {bytes : List Byte}
    (amount : bytes.length = instrAppended i)
    (room : windowEnd s + instrAppended i ≤ Config.bufBytes) :
    WindowMove i s (append bytes s) :=
  .appended bytes amount rfl (append_window (amount ▸ room)).1 rfl

/-! ### The endings -/

/-- What an ending of command `i` in state `s` says of the window: a success moves it, a fault and an
error leave it. -/
def EndingMoves (i : Instr) (s : State) : Ending → Prop
  | .success t => WindowMove i s t
  | .fault _ => True
  | .error _ t => SameWindow s t

theorem runCommand_moves {i : Instr} {s t : State} {e : Ending} (he : EndingMoves i s e)
    (h : runCommand i s e = .next t) : WindowMove i s t := by
  refine runCommand_keeps (WindowMove i s) h (.kept (.refl s))
    (fun _ _ => .kept ⟨rfl, rfl, rfl⟩) ?_ ?_
  · rintro u rfl
    exact WindowMove.trans_same he ⟨rfl, rfl, rfl⟩
  · rintro k u rfl
    exact (WindowMove.kept he).trans_same ⟨rfl, rfl, rfl⟩

/-! ### The shapes -/

/-- Writing a register of the file leaves the window. -/
def KeepsWindow {α : Type} (dst : RegFile α) : Prop :=
  ∀ s f x, SameWindow s (dst.write s f x)

theorem kFile_keeps : KeepsWindow kFile := fun _ _ _ => ⟨rfl, rfl, rfl⟩

section Shapes

variable {α β γ F : Type} {i : Instr} {s : State}

theorem constant_moves {dst : RegFile α} (hd : KeepsWindow dst) {rd : Field6} {v : α} :
    EndingMoves i s (constant dst rd v s) :=
  .kept (hd _ _ _)

theorem unary_moves {src : RegFile α} {dst : RegFile β} (hd : KeepsWindow dst) {op : α → β}
    {rd ra : Field6} : EndingMoves i s (unary src dst op rd ra s) := by
  rcases unary_cases src dst op rd ra s with ⟨_, e⟩ | ⟨a, _, e⟩ <;> rw [e]
  · trivial
  · exact .kept (hd _ _ _)

theorem unaryNonzero_moves [DecidableEq α] {src : RegFile α} {dst : RegFile β}
    (hd : KeepsWindow dst) {zero : α} {op : α → β} {rd ra : Field6} :
    EndingMoves i s (unaryNonzero src dst zero op rd ra s) := by
  rcases unaryNonzero_cases src dst zero op rd ra s with ⟨_, e⟩ | ⟨_, e⟩ | ⟨a, _, _, e⟩ <;> rw [e]
  · trivial
  · trivial
  · exact .kept (hd _ _ _)

theorem binary_moves {srcA : RegFile α} {srcB : RegFile β} {dst : RegFile γ} (hd : KeepsWindow dst)
    {op : α → β → γ} {rd ra rb : Field6} :
    EndingMoves i s (binary srcA srcB dst op rd ra rb s) := by
  rcases binary_cases srcA srcB dst op rd ra rb s with ⟨_, e⟩ | ⟨a, b, _, _, e⟩ <;> rw [e]
  · trivial
  · exact .kept (hd _ _ _)

theorem ternary_moves {src : RegFile α} {dst : RegFile β} (hd : KeepsWindow dst)
    {op : α → α → α → β} {rd ra rb rc : Field6} :
    EndingMoves i s (ternary src dst op rd ra rb rc s) := by
  rcases ternary_cases src dst op rd ra rb rc s with ⟨_, e⟩ | ⟨a, b, c, _, _, _, e⟩ <;> rw [e]
  · trivial
  · exact .kept (hd _ _ _)

theorem test_moves {src : RegFile α} {holds : α → Bool} {ra : Field6} :
    EndingMoves i s (test src holds ra s) := by
  rcases test_cases src holds ra s with ⟨_, e⟩ | ⟨a, _, e⟩ <;> rw [e]
  · trivial
  · exact .kept ⟨rfl, rfl, rfl⟩

theorem test2_moves {src : RegFile α} {holds : α → α → Bool} {ra rb : Field6} :
    EndingMoves i s (test2 src holds ra rb s) := by
  rcases test2_cases src holds ra rb s with ⟨_, e⟩ | ⟨a, b, _, _, e⟩ <;> rw [e]
  · trivial
  · exact .kept ⟨rfl, rfl, rfl⟩

theorem pairCheck_moves {ra rb : Field6} : EndingMoves i s (pairCheck ra rb s) := by
  rcases pairCheck_cases ra rb s with ⟨_, e⟩ | ⟨_, _, _, ⟨_, e⟩ | ⟨ps, qs, _, _, e⟩⟩ <;> rw [e]
  · trivial
  · trivial
  · exact .kept ⟨rfl, rfl, rfl⟩

/-! Encoders and decoders. -/

theorem encodeReg_moves {src : RegFile α} {len : Nat} {bytes : α → List Byte} {ra : Field6}
    (hlen : ∀ a, (bytes a).length = len) (hi : instrAppended i = len) :
    EndingMoves i s (encodeReg src len bytes ra s) := by
  rcases encodeReg_cases src len bytes ra s with ⟨_, e⟩ | ⟨a, _, _, e⟩ | ⟨a, _, room, e⟩ <;> rw [e]
  · trivial
  · trivial
  · exact append_moves ((hlen a).trans hi.symm) (hi ▸ room)

theorem storeScalar_moves {ka : Field6} (hi : instrAppended i = 32) :
    EndingMoves i s (storeScalar ka s) := by
  rcases storeScalar_cases ka s with ⟨_, e⟩ | ⟨k, _, ⟨_, e⟩ | ⟨_, _, e⟩ | ⟨room, _, e⟩⟩ <;> rw [e]
  · trivial
  · trivial
  · trivial
  · exact append_moves ((bytesBE_length k 32).trans hi.symm) (hi ▸ room)

theorem withWindow_moves {len : Nat} {effect : List Byte → Ending}
    (he : windowEnd s ≤ Config.bufBytes → len ≤ s.blen.toNat → ∀ b, EndingMoves i s (effect b)) :
    EndingMoves i s (withWindow len s effect) := by
  rcases withWindow_cases len s effect with
    ⟨_, e⟩ | ⟨_, _, e⟩ | ⟨_, _, _, e⟩ | ⟨b, room, inside, _, e⟩ <;> rw [e]
  · trivial
  · exact SameWindow.refl s
  · trivial
  · exact he room inside b

theorem decodeReg_moves {dst : RegFile α} (hd : KeepsWindow dst) {len : Nat}
    {value : List Byte → α} {rd : Field6} (hi : instrNeeded i = len) :
    EndingMoves i s (decodeReg dst len value rd s) :=
  withWindow_moves fun room inside _ => consume_moves (.inl hi.symm) room inside (hd _ _ _)

theorem pointDecode_moves {G : PointGroup F} (hd : KeepsWindow G.file) {len : Nat}
    {allZero : List Byte → Bool} {coords : List Byte → F × F} {rd : Field6}
    (hi : instrNeeded i = len) : EndingMoves i s (pointDecode G len allZero coords rd s) := by
  refine withWindow_moves fun room inside b => ?_
  split
  · exact consume_moves (.inl hi.symm) room inside (hd _ _ _)
  · dsimp only
    split
    · exact consume_moves (.inl hi.symm) room inside (hd _ _ _)
    · exact SameWindow.refl s

/-! Points. -/

theorem writePoint_keeps [DecidableEq F] {G : PointGroup F} (hd : KeepsWindow G.file) (rd : Field6)
    (p : Aff F) (s : State) : SameWindow s (writePoint G rd p s) := by
  obtain ⟨hp, hl, hm⟩ := hd s rd (Jac.drawn G.ops (G.draw s) p)
  exact ⟨hp, hl, hm⟩

theorem pointUnary_moves [DecidableEq F] {G : PointGroup F} (hd : KeepsWindow G.file)
    {op : Aff F → Aff F} {rd ra : Field6} : EndingMoves i s (pointUnary G op rd ra s) := by
  rcases pointUnary_cases G op rd ra s with ⟨_, e⟩ | ⟨p, _, e⟩ <;> rw [e]
  · trivial
  · exact .kept (writePoint_keeps hd _ _ _)

theorem pointAdd_moves [DecidableEq F] {G : PointGroup F} (hd : KeepsWindow G.file)
    {rd ra rb : Field6} : EndingMoves i s (pointAdd G rd ra rb s) := by
  rcases pointAdd_cases G rd ra rb s with
    ⟨_, e⟩ | ⟨p, q, _, _, ⟨_, e⟩ | ⟨_, _, e⟩ | ⟨_, _, e⟩⟩ <;> rw [e]
  · trivial
  · exact .kept (hd _ _ _)
  · exact .kept (hd _ _ _)
  · exact .kept (writePoint_keeps hd _ _ _)

theorem pointMul_moves [DecidableEq F] {G : PointGroup F} (hd : KeepsWindow G.file)
    {rd ra kb : Field6} : EndingMoves i s (pointMul G rd ra kb s) := by
  rcases pointMul_cases G rd ra kb s with ⟨_, e⟩ | ⟨p, k, _, _, e⟩ <;> rw [e]
  · trivial
  · exact .kept (writePoint_keeps hd _ _ _)

theorem pointBaseMul_moves [DecidableEq F] {G : PointGroup F} (hd : KeepsWindow G.file)
    {base : Aff F} {rd kb : Field6} : EndingMoves i s (pointBaseMul G base rd kb s) := by
  rcases pointBaseMul_cases G base rd kb s with ⟨_, e⟩ | ⟨k, _, e⟩ <;> rw [e]
  · trivial
  · exact .kept (writePoint_keeps hd _ _ _)

theorem afterRequest_keeps (s : State) : SameWindow s (afterRequest s) := by
  unfold afterRequest
  split <;> exact ⟨rfl, rfl, rfl⟩

theorem pointRandom_moves [DecidableEq F] {G : PointGroup F} (hd : KeepsWindow G.file)
    {base : Aff F} {rd kd : Field6} : EndingMoves i s (pointRandom G base rd kd s) := by
  rcases pointRandom_cases G base rd kd s with ⟨_, e⟩ | ⟨r, _, e⟩ <;> rw [e]
  · exact afterRequest_keeps s
  · exact ((WindowMove.kept (afterRequest_keeps s)).trans_same (kFile_keeps _ _ _)).trans_same
      (writePoint_keeps hd _ _ _)

end Shapes

/-! ### The commands -/

theorem fp2_toBytes_length (a : Fp2) : (Fp2.toBytes Config.params a).length = 64 := by
  simp [Fp2.toBytes, toBytes_length]

theorem fp12_toBytes_length (a : Fp12) : (Fp12.toBytes Config.params a).length = 384 := by
  simp [Fp12.toBytes, fp2_toBytes_length]

theorem g1Bytes_length (p : Aff MontWord) : (g1Bytes Config.params p).length = 64 := by
  cases p <;> simp [g1Bytes, toBytes_length]

theorem g2Bytes_length (p : Aff Fp2) : (g2Bytes Config.params p).length = 128 := by
  cases p <;> simp [g2Bytes, fp2_toBytes_length]

theorem kLd_moves {kd : Field6} {s : State} : EndingMoves (.kLd kd) s
    (withWindow s.blen.toNat s fun b =>
      .success (consume s.blen.toNat (kFile.write s kd (beNat b)))) :=
  withWindow_moves fun room inside _ =>
    consume_moves (.inr ⟨kd, rfl, rfl⟩) room inside (kFile_keeps _ _ _)

/-- Every command is the common frame around an effect, and its effect moves the window only as
`EndingMoves` says. -/
theorem exec_effect_moves (s : State) :
    ∀ i : Instr, ∃ e, exec i s = runCommand i s e ∧ EndingMoves i s e
  | .fpAdd .. | .fpSub .. | .fpMul .. | .fp2Add .. | .fp2Sub .. | .fp2Mul .. | .fp6Add ..
  | .fp6Sub .. | .fp6Mul .. | .fp12Add .. | .fp12Sub .. | .fp12Mul .. | .fp12Exp .. | .miller ..
  | .pair .. | .fp2Pack .. | .fp12Pack .. => ⟨_, rfl, binary_moves (fun _ _ _ => ⟨rfl, rfl, rfl⟩)⟩
  | .fpNeg .. | .fpSqr .. | .fpMov .. | .fp2Neg .. | .fp2Sqr .. | .fp2Mov .. | .fp2Mulxi ..
  | .fp6Neg .. | .fp6Sqr .. | .fp6Mov .. | .fp6Frob .. | .fp6Frobp2 .. | .fp6Frobp4 ..
  | .fp6Multau .. | .fp12Neg .. | .fp12Sqr .. | .fp12Mov .. | .fp12Frob .. | .fp12Frobp2 ..
  | .fp12Frobp4 .. | .fp12Conj .. | .gtBaseexp .. | .g1Aff .. | .g1Mov .. | .g2Aff .. | .g2Mov ..
  | .fp2Get .. | .fp6Get .. | .fp12Get .. | .kMov .. =>
    ⟨_, rfl, unary_moves (fun _ _ _ => ⟨rfl, rfl, rfl⟩)⟩
  | .fpInv .. | .fp2Inv .. | .fp6Inv .. | .fp12Inv .. | .finalexp .. =>
    ⟨_, rfl, unaryNonzero_moves (fun _ _ _ => ⟨rfl, rfl, rfl⟩)⟩
  | .fpZero .. | .fpOne .. | .fp2Zero .. | .fp2One .. | .fp6Zero .. | .fp6One .. | .fp12Zero ..
  | .fp12One .. | .g1Inf .. | .g2Inf .. | .kLdi .. =>
    ⟨_, rfl, constant_moves (fun _ _ _ => ⟨rfl, rfl, rfl⟩)⟩
  | .fpIszero .. | .fpIsone .. | .fp2Iszero .. | .fp2Isone .. | .fp6Iszero .. | .fp6Isone ..
  | .fp12Iszero .. | .fp12Isone .. | .g1Oncurve .. | .g2Oncurve .. => ⟨_, rfl, test_moves⟩
  | .fpEq .. | .fp2Eq .. | .fp6Eq .. | .fp12Eq .. => ⟨_, rfl, test2_moves⟩
  | .fpEnc .. => ⟨_, rfl, encodeReg_moves toBytes_length rfl⟩
  | .fp2Enc .. => ⟨_, rfl, encodeReg_moves fp2_toBytes_length rfl⟩
  | .fp12Enc .. => ⟨_, rfl, encodeReg_moves fp12_toBytes_length rfl⟩
  | .g1Marshal .. => ⟨_, rfl, encodeReg_moves (fun _ => g1Bytes_length _) rfl⟩
  | .g2Marshal .. => ⟨_, rfl, encodeReg_moves (fun _ => g2Bytes_length _) rfl⟩
  | .fpDec .. | .fp2Dec .. | .fp12Dec .. =>
    ⟨_, rfl, decodeReg_moves (fun _ _ _ => ⟨rfl, rfl, rfl⟩) rfl⟩
  | .g1Add .. | .g2Add .. => ⟨_, rfl, pointAdd_moves (fun _ _ _ => ⟨rfl, rfl, rfl⟩)⟩
  | .g1Dbl .. | .g1Neg .. | .g2Dbl .. | .g2Neg .. =>
    ⟨_, rfl, pointUnary_moves (fun _ _ _ => ⟨rfl, rfl, rfl⟩)⟩
  | .g1Mul .. | .g2Mul .. => ⟨_, rfl, pointMul_moves (fun _ _ _ => ⟨rfl, rfl, rfl⟩)⟩
  | .g1Basemul .. | .g2Basemul .. => ⟨_, rfl, pointBaseMul_moves (fun _ _ _ => ⟨rfl, rfl, rfl⟩)⟩
  | .g1Unmarshal .. | .g2Unmarshal .. =>
    ⟨_, rfl, pointDecode_moves (fun _ _ _ => ⟨rfl, rfl, rfl⟩) rfl⟩
  | .g1Random .. | .g2Random .. => ⟨_, rfl, pointRandom_moves (fun _ _ _ => ⟨rfl, rfl, rfl⟩)⟩
  | .pairchk .. => ⟨_, rfl, pairCheck_moves⟩
  | .kLd .. => ⟨_, rfl, kLd_moves⟩
  | .kSt .. => ⟨_, rfl, storeScalar_moves rfl⟩
  | .fp6Pack .. => ⟨_, rfl, ternary_moves (fun _ _ _ => ⟨rfl, rfl, rfl⟩)⟩

theorem exec_moves {i : Instr} {s t : State} (h : exec i s = .next t) : WindowMove i s t := by
  obtain ⟨e, he, moves⟩ := exec_effect_moves s i
  exact runCommand_moves moves (he ▸ h)

/-! ### The statements -/

/-- Settles O16: a window moves only after the checks of R82, so it lies inside DBUF and no sum
reaches 2^32. -/
theorem windowPointers : Obligations.WindowPointers := by
  intro i s t h
  cases exec_moves h with
  | kept same => exact .inl ⟨same.bptr, same.blen⟩
  | consumed len amount inside bptr blen _ => exact .inr (.inl ⟨len, amount, inside, bptr, blen⟩)
  | appended bytes amount bptr blen _ => exact .inr (.inr ⟨bptr, amount ▸ blen⟩)

/-- Settles O40: only `Append` writes DBUF, and it writes from the window's end on. -/
theorem memoryFrame : Obligations.MemoryFrame := by
  intro i s t h
  cases exec_moves h with
  | kept same => exact ⟨fun a _ => by rw [same.dbuf], fun _ => same.dbuf⟩
  | consumed _ _ _ _ _ dbuf => exact ⟨fun a _ => by rw [dbuf], fun _ => dbuf⟩
  | appended bytes amount _ _ dbuf =>
    refine ⟨fun a ha => ?_, fun hzero => ?_⟩
    · rw [dbuf, memRead_memWriteRange_other _ _ _ _ (amount ▸ ha)]
    · rw [dbuf, List.length_eq_zero_iff.mp (amount.trans hzero), memWriteRange]

end Sys2Proof.Proofs
end

section
/-!
The words of the engine as elements of Mathlib's fields: `Fp.residue` sends a Montgomery word to its
value in Z/p, and `Fp2.residue` a pair to Z/p(i) with i·i = −1 (R17, R201). Both carry the operations
of the model to those of the field and are injective on canonical words, so an identity of words
follows from one of the field.
-/

namespace Sys2Proof.Proofs

open Sys2Proof Sys2Proof.Laws

/-- `φ` carries the operations of a coordinate field to those of the field `L`, the results are all
good, and `φ` tells good values apart. -/
structure FieldModel {F L : Type} [Field L] (K : FieldOps F) (good : F → Prop) (φ : F → L) :
    Prop where
  good_add : ∀ a b, good (K.add a b)
  good_sub : ∀ a b, good (K.sub a b)
  good_neg : ∀ a, good (K.neg a)
  good_mul : ∀ a b, good (K.mul a b)
  good_inv : ∀ a, good (K.inv a)
  map_add : ∀ a b, φ (K.add a b) = φ a + φ b
  map_sub : ∀ a b, φ (K.sub a b) = φ a - φ b
  map_neg : ∀ a, φ (K.neg a) = -φ a
  map_mul : ∀ a b, φ (K.mul a b) = φ a * φ b
  map_inv : ∀ a, φ (K.inv a) = (φ a)⁻¹
  inj : ∀ {a b}, good a → good b → (φ a = φ b ↔ a = b)

/-- The field Z/p. -/
abbrev PField : Type := ZMod Config.params.p

/-- The field Z/p(i) with i·i = −1. -/
abbrev QField : Type := QuadraticAlgebra PField (-1) 0

theorem p_fact : Fact Config.params.p.Prime := ⟨Config.params_valid.p_prime⟩

/-! ### Fp -/

/-- `val(A)` (R17) as an element of Z/p. -/
def Fp.residue (a : MontWord) : PField := (Fp.val Config.params a : PField)

theorem cast_rInv_mul_montR : (Config.params.rInv : PField) * (montR : PField) = 1 := by
  have h : ((montR * Config.params.rInv : ℕ) : PField) = ((1 : ℕ) : PField) :=
    (ZMod.natCast_eq_natCast_iff _ _ _).mpr montR_mul_rInv
  push_cast at h
  rw [mul_comm, h]

theorem residue_eq (a : MontWord) :
    Fp.residue a = (a.toNat : PField) * (Config.params.rInv : PField) := by
  simp [Fp.residue, Fp.val]

theorem residue_reduce (v : Nat) :
    Fp.residue (Fp.reduce Config.params v) = (v : PField) * (Config.params.rInv : PField) := by
  rw [residue_eq, reduce_toNat, ZMod.natCast_mod]

theorem residue_enc (v : Nat) : Fp.residue (Fp.enc Config.params v) = (v : PField) := by
  simp [Fp.residue, val_enc]

@[simp] theorem residue_add (a b : MontWord) :
    Fp.residue (Fp.add Config.params a b) = Fp.residue a + Fp.residue b := by
  rw [Fp.add, residue_reduce, residue_eq, residue_eq]
  push_cast
  ring

/-- The complement that Fp.neg and Fp.sub form is the negative modulo p. -/
theorem cast_complement (a : Nat) :
    ((Config.params.p - a % Config.params.p : ℕ) : PField) = -(a : PField) := by
  rw [Nat.cast_sub (Nat.mod_lt a p_pos).le, ZMod.natCast_self, ZMod.natCast_mod, zero_sub]

@[simp] theorem residue_neg (a : MontWord) :
    Fp.residue (Fp.neg Config.params a) = -Fp.residue a := by
  rw [Fp.neg, residue_reduce, cast_complement, residue_eq, neg_mul]

@[simp] theorem residue_sub (a b : MontWord) :
    Fp.residue (Fp.sub Config.params a b) = Fp.residue a - Fp.residue b := by
  rw [Fp.sub, residue_reduce, Nat.cast_add, cast_complement, residue_eq, residue_eq]
  ring

@[simp] theorem residue_mul (a b : MontWord) :
    Fp.residue (Fp.mul Config.params a b) = Fp.residue a * Fp.residue b := by
  rw [Fp.mul, residue_reduce, residue_eq, residue_eq]
  push_cast
  ring

/-- The loop of R282 modulo p computes the power. -/
theorem cast_powMod (a e : Nat) : (powMod Config.params.p a e : PField) = (a : PField) ^ e := by
  refine msbLoop_rel (fun (r m : ℕ) => (r : PField) = (a : PField) ^ m) _ _ _ e (by simp) ?_
  intro r m b hr
  cases b
  · simp [msbRound, hr, pow_mul, sq, mul_pow]
  · simp [msbRound, hr, pow_succ, pow_mul, mul_pow]

@[simp] theorem residue_inv [Fact Config.params.p.Prime] (a : MontWord) :
    Fp.residue (Fp.inv Config.params a) = (Fp.residue a)⁻¹ := by
  have hp := seven_le_p
  rw [Fp.inv, residue_enc, cast_powMod, ← Fp.residue]
  by_cases h : Fp.residue a = 0
  · rw [h, inv_zero, zero_pow (by omega)]
  · refine eq_inv_of_mul_eq_one_left ?_
    rw [← pow_succ, show Config.params.p - 2 + 1 = Config.params.p - 1 by omega,
      ZMod.pow_card_sub_one_eq_one h]

theorem residue_inj {a b : MontWord} (ha : Fp.Canonical Config.params a)
    (hb : Fp.Canonical Config.params b) : Fp.residue a = Fp.residue b ↔ a = b := by
  refine ⟨fun h => ?_, fun h => h ▸ rfl⟩
  have hv : Fp.val Config.params a = Fp.val Config.params b := by
    rw [← Nat.mod_eq_of_lt (val_lt a), ← Nat.mod_eq_of_lt (val_lt b)]
    exact (ZMod.natCast_eq_natCast_iff' _ _ _).mp h
  rw [← enc_val ha, hv, enc_val hb]

theorem fp_model [Fact Config.params.p.Prime] :
    FieldModel (fpOps Config.params) (Fp.Canonical Config.params) Fp.residue where
  good_add _ _ := reduce_canonical _
  good_sub _ _ := reduce_canonical _
  good_neg _ := reduce_canonical _
  good_mul _ _ := reduce_canonical _
  good_inv _ := reduce_canonical _
  map_add := residue_add
  map_sub := residue_sub
  map_neg := residue_neg
  map_mul := residue_mul
  map_inv := residue_inv
  inj := residue_inj

/-! ### Fp2 -/

/-- (x, y) as x·i + y (R200). -/
def Fp2.residue (a : Fp2) : QField := ⟨Fp.residue a.y, Fp.residue a.x⟩

/-- −1 is no square modulo p, since p ≡ 3 (mod 4) (R10). -/
theorem neg_one_not_square [Fact Config.params.p.Prime] (r : PField) : r ^ 2 ≠ -1 + 0 * r := by
  intro h
  have hp := Config.params_valid.p_mod
  have hs : IsSquare (-1 : PField) := ⟨r, by rw [← sq, h]; ring⟩
  exact ZMod.exists_sq_eq_neg_one_iff.mp hs (by omega)

@[simp] theorem fp2_residue_re (a : Fp2) : (Fp2.residue a).re = Fp.residue a.y := rfl
@[simp] theorem fp2_residue_im (a : Fp2) : (Fp2.residue a).im = Fp.residue a.x := rfl

theorem fp2_residue_add (a b : Fp2) :
    Fp2.residue (Fp2.add Config.params a b) = Fp2.residue a + Fp2.residue b := by
  ext <;> simp [Fp2.add]

theorem fp2_residue_sub (a b : Fp2) :
    Fp2.residue (Fp2.sub Config.params a b) = Fp2.residue a - Fp2.residue b := by
  ext <;> simp [Fp2.sub]

theorem fp2_residue_neg (a : Fp2) :
    Fp2.residue (Fp2.neg Config.params a) = -Fp2.residue a := by
  ext <;> simp [Fp2.neg]

theorem fp2_residue_mul (a b : Fp2) :
    Fp2.residue (Fp2.mul Config.params a b) = Fp2.residue a * Fp2.residue b := by
  ext
  · simp [Fp2.mul, sub_eq_add_neg]
  · simp [Fp2.mul, add_comm]

/-- The norm x² + y² is that of the quadratic extension. -/
theorem fp2_residue_norm (a : Fp2) :
    Fp.residue (Fp2.norm Config.params a) = (Fp2.residue a).norm := by
  simp [Fp2.norm, QuadraticAlgebra.norm_def, add_comm]

theorem fp2_residue_inv [Fact Config.params.p.Prime] [Fact (∀ r : PField, r ^ 2 ≠ -1 + 0 * r)]
    (a : Fp2) : Fp2.residue (Fp2.inv Config.params a) = (Fp2.residue a)⁻¹ := by
  ext <;> simp [Fp2.inv, fp2_residue_norm, QuadraticAlgebra.inv_def, mul_comm]

theorem fp2_residue_inj {a b : Fp2} (ha : Fp2.Canonical Config.params a)
    (hb : Fp2.Canonical Config.params b) : Fp2.residue a = Fp2.residue b ↔ a = b := by
  obtain ⟨x, y⟩ := a
  obtain ⟨u, v⟩ := b
  rw [QuadraticAlgebra.ext_iff, fp2_residue_re, fp2_residue_re, fp2_residue_im, fp2_residue_im,
    residue_inj ha.1 hb.1, residue_inj ha.2 hb.2, and_comm, Fp2.mk.injEq]

theorem fp2_model [Fact Config.params.p.Prime] [Fact (∀ r : PField, r ^ 2 ≠ -1 + 0 * r)] :
    FieldModel (fp2Ops Config.params) (Fp2.Canonical Config.params) Fp2.residue where
  good_add _ _ := ⟨reduce_canonical _, reduce_canonical _⟩
  good_sub _ _ := ⟨reduce_canonical _, reduce_canonical _⟩
  good_neg _ := ⟨reduce_canonical _, reduce_canonical _⟩
  good_mul _ _ := ⟨reduce_canonical _, reduce_canonical _⟩
  good_inv _ := ⟨reduce_canonical _, reduce_canonical _⟩
  map_add := fp2_residue_add
  map_sub := fp2_residue_sub
  map_neg := fp2_residue_neg
  map_mul := fp2_residue_mul
  map_inv := fp2_residue_inv
  inj := fp2_residue_inj

end Sys2Proof.Proofs
end

section
/-!
Other ways to compute the words of the multiplier: Montgomery reduction (R162;
93_implementation_defined G2) and the three-multiplication form (R202). The conversions as products
(R164) stand in Laws/Field.lean.
-/

namespace Sys2Proof.Proofs

open Sys2Proof Sys2Proof.Laws

section Reduction

variable {p pPrime R v : Nat}

/-- The multiple of p that the reduction adds makes v divisible by R, since p·PPRIME ≡ −1 modulo R
(R12). -/
theorem dvd_add_reduction_multiple (hpp : (p * pPrime + 1) % R = 0) :
    R ∣ v + v % R * pPrime % R * p := by
  have hz : p * pPrime + 1 ≡ 0 [MOD R] := Nat.modEq_zero_iff_dvd.mpr (Nat.dvd_of_mod_eq_zero hpp)
  refine Nat.modEq_zero_iff_dvd.mp ?_
  calc v + v % R * pPrime % R * p
      ≡ v + v * pPrime * p [MOD R] :=
        ((Nat.mod_modEq _ _).trans ((Nat.mod_modEq v R).mul_right _)).mul_right p |>.add_left v
    _ = v * (p * pPrime + 1) := by ring
    _ ≡ v * 0 [MOD R] := hz.mul_left v
    _ = 0 := Nat.mul_zero v

/-- The quotient t of the reduction is v·R⁻¹ modulo p. -/
theorem reduction_modEq {m t rInv : Nat} (hR : R * rInv ≡ 1 [MOD p]) (ht : R * t = v + m * p) :
    t ≡ v * rInv [MOD p] := by
  calc t = t * 1 := (Nat.mul_one t).symm
    _ ≡ t * (R * rInv) [MOD p] := hR.symm.mul_left t
    _ = R * t * rInv := by ring
    _ = (v + m * p) * rInv := by rw [ht]
    _ = v * rInv + p * (m * rInv) := by ring
    _ ≡ v * rInv [MOD p] := by simp [Nat.ModEq]

/-- The quotient is below 2p, so one subtraction reduces it. -/
theorem reduction_lt {m t a b : Nat} (ha : a < p) (hb : b < p) (hp : p < R) (hm : m < R)
    (ht : R * t = a * b + m * p) : t < 2 * p := by
  have hab : a * b ≤ p * b := Nat.mul_le_mul_right b ha.le
  have hpb : p * b < R * p := Nat.mul_lt_mul_of_lt_of_le hp hb.le (by omega)
  have hmp : m * p ≤ R * p := Nat.mul_le_mul_right p hm.le
  refine Nat.lt_of_mul_lt_mul_left (a := R) ?_
  calc R * t = a * b + m * p := ht
    _ < R * p + R * p := by omega
    _ = R * (2 * p) := by ring

theorem mod_eq_of_lt_two_mul {t : Nat} (h : t < 2 * p) : t % p = if p ≤ t then t - p else t := by
  split
  · rw [Nat.mod_eq_sub_mod ‹_›, Nat.mod_eq_of_lt (by omega)]
  · exact Nat.mod_eq_of_lt (by omega)

end Reduction

/-- Montgomery reduction computes the word of FP.MUL (R162). -/
theorem mul_eq_reduction {a b : MontWord} {pPrime : Nat} (ha : Fp.Canonical Config.params a)
    (hb : Fp.Canonical Config.params b) (hpp : (Config.params.p * pPrime + 1) % montR = 0) :
    let t := (a.toNat * b.toNat +
      a.toNat * b.toNat % montR * pPrime % montR * Config.params.p) / montR
    (Fp.mul Config.params a b).toNat =
      if Config.params.p ≤ t then t - Config.params.p else t := by
  intro t
  have hp := Config.params_valid.p_lt
  have ht : montR * t = a.toNat * b.toNat +
      a.toNat * b.toNat % montR * pPrime % montR * Config.params.p :=
    Nat.mul_div_cancel' (dvd_add_reduction_multiple hpp)
  have hlt : t < 2 * Config.params.p :=
    reduction_lt ha hb hp (Nat.mod_lt _ (by omega)) ht
  rw [Fp.mul, reduce_toNat, ← mod_eq_of_lt_two_mul hlt]
  exact (reduction_modEq montR_mul_rInv ht).symm

/-- The product of Fp2 with three multiplications (R202). -/
theorem fp2_mul_eq_three_products (a b : Fp2) :
    let t := Fp.mul Config.params (Fp.add Config.params a.x a.y) (Fp.add Config.params b.x b.y)
    let u := Fp.mul Config.params a.x b.x
    let v := Fp.mul Config.params a.y b.y
    Fp2.mul Config.params a b =
      ⟨Fp.sub Config.params (Fp.sub Config.params t u) v, Fp.sub Config.params v u⟩ := by
  intro t u v
  have hx : Fp.residue (Fp2.mul Config.params a b).x =
      Fp.residue (Fp.sub Config.params (Fp.sub Config.params t u) v) := by
    simp only [t, u, v, Fp2.mul, residue_add, residue_sub, residue_mul]
    ring
  exact congrArg (Fp2.mk · _) ((residue_inj (reduce_canonical _) (reduce_canonical _)).mp hx)

/-- Settles O58: Montgomery reduction divides exactly and stays below 2p; the conversions are
products; the three-multiplication form is an identity of Z/p. -/
theorem multiplierForms : Obligations.MultiplierForms :=
  ⟨fun _ _ _ ha hb _ hpp => mul_eq_reduction ha hb hpp,
    ⟨Config.params_valid.pPrime_lt, Config.params_valid.pPrime_mul⟩,
    fun _ hv => enc_eq_mul_r2 (hv.trans Config.params_valid.p_lt),
    val_eq_mul_one,
    fun a b _ _ => fp2_mul_eq_three_products a b⟩

end Sys2Proof.Proofs
end

section
/-!
The points of the model as points of Mathlib's Weierstrass curves y² = x³ + b. An affine point
represents a point of the curve over the field of its model; the sums and multiples of the model
(R311, R375) represent those of Mathlib's group, whose laws then hold of the model.
-/

namespace Sys2Proof.Proofs

open Sys2Proof Sys2Proof.Machine Sys2Proof.Laws WeierstrassCurve.Affine

/-- The curve y² = x³ + b. -/
abbrev shortCurve {L : Type} [Field L] (b : L) : WeierstrassCurve.Affine L := ⟨0, 0, 0, 0, b⟩

section Curve

variable {L : Type} [Field L] {b : L}

theorem shortCurve_equation (x y : L) : (shortCurve b).Equation x y ↔ y * y = x * x * x + b := by
  rw [equation_iff]
  simp only [zero_mul, add_zero]
  rw [sq, pow_succ, sq]

/-- Where 6·b ≠ 0 the curve is smooth. -/
theorem shortCurve_nonsingular (h6 : (6 : L) ≠ 0) (hb : b ≠ 0) {x y : L}
    (h : y * y = x * x * x + b) : (shortCurve b).Nonsingular x y := by
  refine (equation_iff_nonsingular_of_Δ_ne_zero ?_).mp ((shortCurve_equation x y).mpr h)
  have hΔ : (shortCurve b).Δ = -(12 * (6 * b) ^ 2) := by
    simp only [WeierstrassCurve.Δ, WeierstrassCurve.b₂, WeierstrassCurve.b₄, WeierstrassCurve.b₆,
      WeierstrassCurve.b₈]
    ring
  have h12 : (12 : L) = 6 * 2 := by norm_num
  have h2 : (2 : L) ≠ 0 := fun h => h6 (by rw [show (6 : L) = 2 * 3 by norm_num, h, zero_mul])
  rw [hΔ, h12]
  exact neg_ne_zero.mpr (mul_ne_zero (mul_ne_zero h6 h2) (pow_ne_zero 2 (mul_ne_zero h6 hb)))

end Curve

/-- The affine point of the model represents the point of the curve whose coordinates are the images of
its own; INF represents the neutral element. -/
inductive Represents {F L : Type} [Field L] (good : F → Prop) (φ : F → L) (b : L) :
    Aff F → (shortCurve b).Point → Prop
  | inf : Represents good φ b .inf 0
  | pt {x y : F} (gx : good x) (gy : good y) (h : (shortCurve b).Nonsingular (φ x) (φ y)) :
    Represents good φ b (.pt x y) (.some _ _ h)

section Group

variable {F L : Type} [Field L] {K : FieldOps F} {good : F → Prop}
  {φ : F → L} {b : L}

theorem represents_pt {x y : F} {X Y : L} (gx : good x) (gy : good y) (hx : φ x = X) (hy : φ y = Y)
    (h : (shortCurve b).Nonsingular X Y) : Represents good φ b (.pt x y) (.some X Y h) := by
  subst hx hy
  exact .pt gx gy h

/-- The line construction of R311 is that of Mathlib. -/
theorem represents_onLine (M : FieldModel K good φ) {lam x1 y1 x2 : F} {l : L} (hl : φ lam = l)
    (h : (shortCurve b).Nonsingular ((shortCurve b).addX (φ x1) (φ x2) l)
      ((shortCurve b).addY (φ x1) (φ x2) (φ y1) l)) :
    Represents good φ b (Aff.onLine K lam x1 y1 x2) (.some _ _ h) := by
  refine represents_pt (M.good_sub _ _) (M.good_sub _ _) ?_ ?_ h
  · simp only [M.map_sub, M.map_mul, hl, addX]
    ring
  · simp only [M.map_sub, M.map_mul, hl, addX, addY, negAddY, negY]
    ring

/-- A point of the curve has one representative. -/
theorem Represents.unique (M : FieldModel K good φ) {P Q : Aff F} {A B : (shortCurve b).Point}
    (hP : Represents good φ b P A) (hQ : Represents good φ b Q B) (h : A = B) : P = Q := by
  cases hP with
  | inf =>
    cases hQ with
    | inf => rfl
    | pt => cases h
  | pt gx1 gy1 h1 =>
    cases hQ with
    | inf => cases h
    | pt gx2 gy2 h2 =>
      obtain ⟨hx, hy⟩ := Point.some.inj h
      rw [(M.inj gx1 gx2).mp hx, (M.inj gy1 gy2).mp hy]

theorem Represents.eq_zero {A : (shortCurve b).Point} (h : Represents good φ b (.inf : Aff F) A) :
    A = 0 := by
  cases h
  rfl

theorem onCurveEq_iff [DecidableEq F] (M : FieldModel K good φ) {w x y : F} :
    onCurveEq K w x y = true ↔ φ y * φ y = φ x * φ x * φ x + φ w := by
  rw [onCurveEq, decide_eq_true_eq, ← M.inj (M.good_mul _ _) (M.good_add _ _)]
  simp only [M.map_mul, M.map_add]

/-- Good coordinates that satisfy the equation of R310 represent a point of the curve. -/
theorem exists_represents [DecidableEq F] (M : FieldModel K good φ) (h6 : (6 : L) ≠ 0)
    {w x y : F} (hw : φ w ≠ 0) (gx : good x) (gy : good y) (h : onCurveEq K w x y = true) :
    ∃ A, Represents good φ (φ w) (.pt x y) A :=
  ⟨_, .pt gx gy (shortCurve_nonsingular h6 hw ((onCurveEq_iff M).mp h))⟩

variable [DecidableEq L]

theorem map_chordSlope (M : FieldModel K good φ) {x1 y1 x2 y2 : F} (h : φ x1 ≠ φ x2) :
    φ (chordSlope K x1 y1 x2 y2) = (shortCurve b).slope (φ x1) (φ x2) (φ y1) (φ y2) := by
  rw [slope_of_X_ne h, chordSlope, M.map_mul, M.map_inv, M.map_sub, M.map_sub, ← neg_sub (φ y1),
    ← neg_sub (φ x1), inv_neg, neg_mul_neg, div_eq_mul_inv]

theorem map_tangentSlope (M : FieldModel K good φ) {x1 y1 x2 y2 : F} (hx : φ x1 = φ x2)
    (hy : φ y1 ≠ (shortCurve b).negY (φ x2) (φ y2)) :
    φ (tangentSlope K x1 y1) = (shortCurve b).slope (φ x1) (φ x2) (φ y1) (φ y2) := by
  rw [slope_of_Y_ne hx hy, tangentSlope, div_eq_mul_inv]
  simp only [M.map_mul, M.map_inv, M.map_add, negY]
  congr 1
  · ring
  · congr 1
    ring

variable [DecidableEq F]

/-- The sum of R311 represents the sum of the group. -/
theorem Represents.add (M : FieldModel K good φ) {P Q : Aff F} {A B : (shortCurve b).Point}
    (hP : Represents good φ b P A) (hQ : Represents good φ b Q B) :
    Represents good φ b (Aff.add K P Q) (A + B) := by
  cases hP with
  | inf => simpa only [Aff.add, zero_add] using hQ
  | @pt x1 y1 gx1 gy1 h1 =>
    cases hQ with
    | inf => simpa only [Aff.add, add_zero] using Represents.pt gx1 gy1 h1
    | @pt x2 y2 gx2 gy2 h2 =>
      have hneg : φ y1 = (shortCurve b).negY (φ x2) (φ y2) ↔ y1 = K.neg y2 := by
        rw [← M.inj gy1 (M.good_neg y2), M.map_neg]
        simp [negY]
      rw [Aff.add]
      split
      next hx =>
        have hX : φ x1 = φ x2 := (M.inj gx1 gx2).mpr hx
        split
        next hy =>
          rw [Point.add_of_Y_eq hX (hneg.mpr hy)]
          exact .inf
        next hy =>
          have hY := mt hneg.mp hy
          rw [Point.add_of_Y_ne hY]
          exact represents_onLine M (map_tangentSlope M hX hY) _
      next hx =>
        have hX := mt (M.inj gx1 gx2).mp hx
        rw [Point.add_of_X_ne hX]
        exact represents_onLine M (map_chordSlope M hX) _

/-- The double-and-add loop of R375 represents the multiple of the group. -/
theorem Represents.smul (M : FieldModel K good φ) {P : Aff F} {A : (shortCurve b).Point}
    (hP : Represents good φ b P A) (k : Nat) :
    Represents good φ b (Aff.smul K k P) (k • A) := by
  refine msbLoop_rel (fun Q m => Represents good φ b Q (m • A)) _ _ _ k ?_ ?_
  · rw [zero_nsmul]
    exact .inf
  · intro Q m bit hQ
    have hdouble : Represents good φ b (Aff.add K Q Q) ((2 * m) • A) := by
      rw [two_mul, add_nsmul]
      exact hQ.add M hQ
    cases bit with
    | false => exact hdouble
    | true =>
      rw [msbRound, if_pos rfl, Bool.toNat_true, succ_nsmul]
      exact hdouble.add M hP

/-- Multiples by a scalar that kills the point depend on the scalar modulo it. -/
theorem smul_mod (M : FieldModel K good φ) {P : Aff F} {A : (shortCurve b).Point}
    (hP : Represents good φ b P A) {n : Nat} (hn : n • A = 0) (k : Nat) :
    Aff.smul K k P = Aff.smul K (k % n) P :=
  (hP.smul M k).unique M (hP.smul M (k % n)) (nsmul_eq_mod_nsmul k hn)

end Group

end Sys2Proof.Proofs
end

section
/-!
Multiples modulo the order: the curve of G1 has n points (R14), so n kills each of them; on the twist
the validity predicate of G2 says so (R346).
-/

namespace Sys2Proof.Proofs

open Sys2Proof Sys2Proof.Machine Sys2Proof.Laws WeierstrassCurve.Affine

/-! ### The order of the curve of G1 -/

/-- Counting row by row counts the pairs. -/
theorem sum_countP_range (n : Nat) (q : Nat → Nat → Bool) :
    ((List.range n).map fun x => (List.range n).countP (q x)).sum =
      Nat.card {ij : Fin n × Fin n // q ij.1 ij.2 = true} := by
  have row : ∀ x, (List.range n).countP (q x) = ∑ j : Fin n, if q x j = true then 1 else 0 := by
    intro x
    rw [← Finset.sum_range fun j => if q x j = true then 1 else 0, ← Finset.card_filter,
      ← Nat.count_eq_card_filter_range, Nat.count]
    simp only [Bool.decide_eq_true]
  rw [Nat.card_eq_fintype_card, Fintype.card_subtype, Finset.card_filter, Fintype.sum_prod_type]
  simp only [row]
  exact Finset.sum_range fun i => ∑ j : Fin n, if q i j = true then 1 else 0

/-- A number below p, as a word. -/
def wordOf (i : Fin Config.params.p) : MontWord := BitVec.ofNat 256 i

theorem wordOf_toNat (i : Fin Config.params.p) : (wordOf i).toNat = i := by
  have hp : Config.params.p < 2 ^ 256 := Config.params_valid.p_lt
  rw [wordOf, BitVec.toNat_ofNat, Nat.mod_eq_of_lt (i.isLt.trans hp)]

theorem wordOf_canonical (i : Fin Config.params.p) : Fp.Canonical Config.params (wordOf i) := by
  rw [Fp.Canonical, wordOf_toNat]
  exact i.isLt

/-- The words below p run through Z/p, each element once. -/
theorem residue_wordOf_bijective [Fact Config.params.p.Prime] :
    Function.Bijective fun i => Fp.residue (wordOf i) := by
  refine (Fintype.bijective_iff_injective_and_card _).mpr ⟨fun i j h => ?_, by simp⟩
  have hw := (residue_inj (wordOf_canonical i) (wordOf_canonical j)).mp h
  exact Fin.ext (by rw [← wordOf_toNat i, hw, wordOf_toNat])

/-- The words below p, counted, and the elements of Z/p. -/
noncomputable def wordEquiv [Fact Config.params.p.Prime] : Fin Config.params.p ≃ PField :=
  Equiv.ofBijective _ residue_wordOf_bijective

theorem natCast_ne_zero_of_lt {a : Nat} (h0 : 0 < a) (ha : a < Config.params.p) :
    (a : PField) ≠ 0 :=
  fun h => absurd (Nat.le_of_dvd h0 ((ZMod.natCast_eq_zero_iff a _).mp h)) (by omega)

theorem pfield_six_ne_zero : (6 : PField) ≠ 0 := by
  exact_mod_cast natCast_ne_zero_of_lt (a := 6) (by decide) seven_le_p

theorem residue_b1 : Fp.residue (b1 Config.params) = 3 := by
  rw [b1, residue_enc, Nat.cast_ofNat]

theorem residue_b1_ne_zero : Fp.residue (b1 Config.params) ≠ 0 := by
  have hp := seven_le_p
  rw [residue_b1]
  exact_mod_cast natCast_ne_zero_of_lt (a := 3) (by decide) (by omega)

/-- The group of the curve of G1 has n elements: the count of R14, and the point at infinity. -/
theorem card_curve1 [Fact Config.params.p.Prime] :
    Nat.card (shortCurve (Fp.residue (b1 Config.params))).Point = Config.params.n := by
  have pairs : Nat.card {xy : PField × PField //
      (shortCurve (Fp.residue (b1 Config.params))).Nonsingular xy.1 xy.2} =
        pointCount1 Config.params := by
    rw [pointCount1, sum_countP_range]
    refine (Nat.card_congr ((wordEquiv.prodCongr wordEquiv).subtypeEquiv fun ij => ?_)).symm
    rw [onCurveEq_iff fp_model]
    exact ⟨shortCurve_nonsingular pfield_six_ne_zero residue_b1_ne_zero,
      fun h => (shortCurve_equation _ _).mp h.1⟩
  rw [Nat.card_congr (nonsingularPointEquiv _), ← Config.params_valid.card_g1, ← pairs]
  exact Finite.card_option

/-! ### The points of the two groups -/

theorem exists_represents1 [Fact Config.params.p.Prime] {P : Aff MontWord}
    (good : Aff.All (Fp.Canonical Config.params) P) (on : onCurve1 Config.params P = true) :
    ∃ A,
      Represents (Fp.Canonical Config.params) Fp.residue (Fp.residue (b1 Config.params)) P A := by
  cases P with
  | inf => exact ⟨0, .inf⟩
  | pt x y =>
    exact exists_represents fp_model pfield_six_ne_zero residue_b1_ne_zero good.1 good.2 on

/-- 6 is not zero in the quadratic extension either. -/
theorem qfield_six_ne_zero : (6 : QField) ≠ 0 := fun h =>
  pfield_six_ne_zero (congrArg QuadraticAlgebra.re h)

/-- B2·ξ = 3 (R340), so B2 is not zero. -/
theorem residue_b2_ne_zero [Fact Config.params.p.Prime] :
    Fp2.residue Config.params.b2 ≠ 0 := by
  intro h
  have hm := congrArg Fp2.residue Config.params_valid.b2_mul
  rw [fp2_residue_mul, h, zero_mul] at hm
  exact residue_b1_ne_zero (congrArg QuadraticAlgebra.re hm).symm

theorem exists_represents2 [Fact Config.params.p.Prime] [Fact (∀ r : PField, r ^ 2 ≠ -1 + 0 * r)]
    {P : Aff Fp2} (good : Aff.All (Fp2.Canonical Config.params) P) (on : onTwist P = true) :
    ∃ A,
      Represents (Fp2.Canonical Config.params) Fp2.residue (Fp2.residue Config.params.b2) P A := by
  cases P with
  | inf => exact ⟨0, .inf⟩
  | pt x y =>
    exact exists_represents fp2_model qfield_six_ne_zero residue_b2_ne_zero good.1 good.2 on

theorem smul_inf {F : Type} [DecidableEq F] (K : FieldOps F) (k : Nat) :
    Aff.smul K k .inf = .inf := by
  refine msbLoop_rel (fun (P : Aff F) (_ : Nat) => P = .inf) _ _ _ k rfl ?_
  rintro P m bit rfl
  cases bit <;> rfl

/-- The validity predicate of G2 is the equation and [n]P = INF (R346). -/
theorem onCurve2_iff (P : Aff Fp2) : onCurve2 Config.params P = true ↔
    onTwist P = true ∧ Aff.smul (fp2Ops Config.params) Config.params.n P = .inf := by
  cases P with
  | inf => simp [onCurve2, onTwist, smul_inf]
  | pt x y => simp [onCurve2, onTwist]

/-! ### The statement -/

/-- Settles O57: n kills every point of G1 by Lagrange's theorem, and every valid point of G2 by the
validity predicate. -/
theorem multiplesModOrder : Obligations.MultiplesModOrder := by
  have := p_fact
  have : Fact (∀ r : PField, r ^ 2 ≠ -1 + 0 * r) := ⟨neg_one_not_square⟩
  refine ⟨fun P k good on => ?_, fun P k good on => ?_⟩
  · obtain ⟨A, hA⟩ := exists_represents1 good on
    have hn : Config.params.n • A = 0 := card_curve1 ▸ card_nsmul_eq_zero'
    exact ⟨(hA.smul fp_model _).unique fp_model .inf hn, smul_mod fp_model hA hn k⟩
  · obtain ⟨onT, hn⟩ := (onCurve2_iff P).mp on
    obtain ⟨A, hA⟩ := exists_represents2 good onT
    have hA' := hA.smul fp2_model Config.params.n
    rw [hn] at hA'
    exact smul_mod fp2_model hA hA'.eq_zero k

end Sys2Proof.Proofs
end

section
/-!
How a command can end, once for each shape of Machine/Shapes.lean: a success in some state, a fault, or an
error that leaves the state but for a request to the entropy source. `EndingIn` leaves open what is asked
of the state of a success, so that the statements about frames and about invariants share the shapes.
-/

namespace Sys2Proof.Proofs

open Sys2Proof Sys2Proof.Machine Sys2Proof.Laws

/-- What an effect in state `s` can end as (R460): a success in a state that meets `P`, a fault, or an
error, which leaves the state but for an answer that the entropy source has given (R440, R468). -/
def EndingIn (s : State) (P : State → Prop) : Ending → Prop
  | .success t => P t
  | .fault _ => True
  | .error _ t => t = s ∨ t = afterRequest s

section Shapes

variable {α β γ F : Type} {s : State} {P : State → Prop}

theorem constant_endsIn {dst : RegFile α} {rd : Field6} {v : α} (h : P (dst.write s rd v)) :
    EndingIn s P (constant dst rd v s) :=
  h

theorem unary_endsIn {src : RegFile α} {dst : RegFile β} {op : α → β} {rd ra : Field6}
    (h : ∀ a, src.read s ra = some a → P (dst.write s rd (op a))) :
    EndingIn s P (unary src dst op rd ra s) := by
  rcases unary_cases src dst op rd ra s with ⟨_, e⟩ | ⟨a, ha, e⟩ <;> rw [e]
  · trivial
  · exact h a ha

theorem unaryNonzero_endsIn [DecidableEq α] {src : RegFile α} {dst : RegFile β} {zero : α}
    {op : α → β} {rd ra : Field6} (h : ∀ a, src.read s ra = some a → P (dst.write s rd (op a))) :
    EndingIn s P (unaryNonzero src dst zero op rd ra s) := by
  rcases unaryNonzero_cases src dst zero op rd ra s with ⟨_, e⟩ | ⟨_, e⟩ | ⟨a, ha, _, e⟩ <;> rw [e]
  · trivial
  · trivial
  · exact h a ha

theorem binary_endsIn {srcA : RegFile α} {srcB : RegFile β} {dst : RegFile γ} {op : α → β → γ}
    {rd ra rb : Field6}
    (h : ∀ a b, srcA.read s ra = some a → srcB.read s rb = some b → P (dst.write s rd (op a b))) :
    EndingIn s P (binary srcA srcB dst op rd ra rb s) := by
  rcases binary_cases srcA srcB dst op rd ra rb s with ⟨_, e⟩ | ⟨a, b, ha, hb, e⟩ <;> rw [e]
  · trivial
  · exact h a b ha hb

theorem ternary_endsIn {src : RegFile α} {dst : RegFile β} {op : α → α → α → β}
    {rd ra rb rc : Field6}
    (h : ∀ a b c, src.read s ra = some a → src.read s rb = some b → src.read s rc = some c →
      P (dst.write s rd (op a b c))) :
    EndingIn s P (ternary src dst op rd ra rb rc s) := by
  rcases ternary_cases src dst op rd ra rb rc s with ⟨_, e⟩ | ⟨a, b, c, ha, hb, hc, e⟩ <;> rw [e]
  · trivial
  · exact h a b c ha hb hc

/-! The flag RES. -/

theorem test_endsIn {src : RegFile α} {holds : α → Bool} {ra : Field6} (h : ∀ r, P (setRes s r)) :
    EndingIn s P (test src holds ra s) := by
  rcases test_cases src holds ra s with ⟨_, e⟩ | ⟨a, _, e⟩ <;> rw [e]
  · trivial
  · exact h _

theorem test2_endsIn {src : RegFile α} {holds : α → α → Bool} {ra rb : Field6}
    (h : ∀ r, P (setRes s r)) : EndingIn s P (test2 src holds ra rb s) := by
  rcases test2_cases src holds ra rb s with ⟨_, e⟩ | ⟨a, b, _, _, e⟩ <;> rw [e]
  · trivial
  · exact h _

theorem pairCheck_endsIn {ra rb : Field6} (h : ∀ r, P (setRes s r)) :
    EndingIn s P (pairCheck ra rb s) := by
  rcases pairCheck_cases ra rb s with ⟨_, e⟩ | ⟨_, _, _, ⟨_, e⟩ | ⟨ps, qs, _, _, e⟩⟩ <;> rw [e]
  · trivial
  · trivial
  · exact h _

/-! Encoders and decoders. -/

theorem encodeReg_endsIn {src : RegFile α} {len : Nat} {bytes : α → List Byte} {ra : Field6}
    (h : ∀ a, src.read s ra = some a → windowEnd s + len ≤ Config.bufBytes →
      P (append (bytes a) s)) :
    EndingIn s P (encodeReg src len bytes ra s) := by
  rcases encodeReg_cases src len bytes ra s with ⟨_, e⟩ | ⟨a, _, _, e⟩ | ⟨a, ha, room, e⟩ <;> rw [e]
  · trivial
  · trivial
  · exact h a ha room

theorem storeScalar_endsIn {ka : Field6}
    (h : ∀ k, readReg s.k ka = some k → windowEnd s + 32 ≤ Config.bufBytes →
      P (append (bytesBE k 32) s)) :
    EndingIn s P (storeScalar ka s) := by
  rcases storeScalar_cases ka s with ⟨_, e⟩ | ⟨k, hk, ⟨_, e⟩ | ⟨_, _, e⟩ | ⟨room, _, e⟩⟩ <;> rw [e]
  · trivial
  · trivial
  · trivial
  · exact h k hk room

theorem withWindow_endsIn {len : Nat} {effect : List Byte → Ending}
    (h : ∀ bytes, EndingIn s P (effect bytes)) : EndingIn s P (withWindow len s effect) := by
  rcases withWindow_cases len s effect with
    ⟨_, e⟩ | ⟨_, _, e⟩ | ⟨_, _, _, e⟩ | ⟨bytes, _, _, _, e⟩ <;> rw [e]
  · trivial
  · exact .inl rfl
  · trivial
  · exact h bytes

theorem decodeReg_endsIn {dst : RegFile α} {len : Nat} {value : List Byte → α} {rd : Field6}
    (h : ∀ bytes, P (consume len (dst.write s rd (value bytes)))) :
    EndingIn s P (decodeReg dst len value rd s) :=
  withWindow_endsIn h

theorem pointDecode_endsIn {G : PointGroup F} {len : Nat} {allZero : List Byte → Bool}
    {coords : List Byte → F × F} {rd : Field6}
    (infinity : P (consume len (G.file.write s rd (Jac.infinity G.ops))))
    (point : ∀ bytes, G.onCurve (.pt (coords bytes).1 (coords bytes).2) = true →
      P (consume len (G.file.write s rd (Jac.ofAffine G.ops (coords bytes).1 (coords bytes).2)))) :
    EndingIn s P (pointDecode G len allZero coords rd s) := by
  rcases pointDecode_cases G len allZero coords rd s with
    ⟨_, e⟩ | ⟨_, _, e⟩ | ⟨_, _, _, e⟩ | ⟨bytes, _, _, _, ⟨_, e⟩ | ⟨_, on, e⟩ | ⟨_, _, e⟩⟩ <;> rw [e]
  · trivial
  · exact .inl rfl
  · trivial
  · exact infinity
  · exact point bytes on
  · exact .inl rfl

/-! Points. -/

variable [DecidableEq F] {G : PointGroup F}

theorem pointUnary_endsIn {op : Aff F → Aff F} {rd ra : Field6}
    (h : ∀ p, G.file.read s ra = some p → P (writePoint G rd (op (affineOf G.ops p)) s)) :
    EndingIn s P (pointUnary G op rd ra s) := by
  rcases pointUnary_cases G op rd ra s with ⟨_, e⟩ | ⟨p, hp, e⟩ <;> rw [e]
  · trivial
  · exact h p hp

theorem pointAdd_endsIn {rd ra rb : Field6}
    (copy : ∀ f p, G.file.read s f = some p → P (G.file.write s rd p))
    (sum : ∀ p q, G.file.read s ra = some p → G.file.read s rb = some q →
      P (writePoint G rd (Aff.add G.ops (affineOf G.ops p) (affineOf G.ops q)) s)) :
    EndingIn s P (pointAdd G rd ra rb s) := by
  rcases pointAdd_cases G rd ra rb s with
    ⟨_, e⟩ | ⟨p, q, hp, hq, ⟨_, e⟩ | ⟨_, _, e⟩ | ⟨_, _, e⟩⟩ <;> rw [e]
  · trivial
  · exact copy rb q hq
  · exact copy ra p hp
  · exact sum p q hp hq

theorem pointMul_endsIn {rd ra kb : Field6}
    (h : ∀ p k, G.file.read s ra = some p →
      P (writePoint G rd (Aff.smul G.ops k (affineOf G.ops p)) s)) :
    EndingIn s P (pointMul G rd ra kb s) := by
  rcases pointMul_cases G rd ra kb s with ⟨_, e⟩ | ⟨p, k, hp, _, e⟩ <;> rw [e]
  · trivial
  · exact h p k hp

theorem pointBaseMul_endsIn {base : Aff F} {rd kb : Field6}
    (h : ∀ k, P (writePoint G rd (Aff.smul G.ops k base) s)) :
    EndingIn s P (pointBaseMul G base rd kb s) := by
  rcases pointBaseMul_cases G base rd kb s with ⟨_, e⟩ | ⟨k, _, e⟩ <;> rw [e]
  · trivial
  · exact h k

theorem pointRandom_endsIn {base : Aff F} {rd kd : Field6}
    (h : ∀ k, P (writePoint G rd (Aff.smul G.ops k base) (kFile.write (afterRequest s) kd k))) :
    EndingIn s P (pointRandom G base rd kd s) := by
  rcases pointRandom_cases G base rd kd s with ⟨_, e⟩ | ⟨r, _, e⟩ <;> rw [e]
  · exact .inr rfl
  · exact h _

end Shapes

/-! ### The outcome of a command word -/

/-- The outcomes of command word `w` in state `s` (R47, R460, R463, R468), where a success makes its writes
in a state that meets `P`. -/
inductive Ends (w : Word32) (s : State) (P : State → Prop) : State → Prop
  | ignored (halt : halted s = true) : Ends w s P s
  | faulted (run : halted s = false) (c : FaultKind) : Ends w s P (takeFault c w s)
  | succeeded (run : halted s = false) {u : State} (hu : P u) : Ends w s P (succeed u)
  | errored (run : halted s = false) (k : ErrorKind) {u : State} (hu : u = s ∨ u = afterRequest s) :
    Ends w s P (takeError k u)

/-- An error leaves RES, FAULT, FINFO and DBUF (R468). -/
theorem errored_same {s u : State} (h : u = s ∨ u = afterRequest s) :
    u.res = s.res ∧ u.fault = s.fault ∧ u.finfo = s.finfo ∧ u.dbuf = s.dbuf := by
  rcases h with rfl | rfl
  · exact ⟨rfl, rfl, rfl, rfl⟩
  · unfold afterRequest
    split <;> exact ⟨rfl, rfl, rfl, rfl⟩

theorem runCommand_ends {i : Instr} {s t : State} {P : State → Prop} {e : Ending}
    (he : EndingIn s P e) (h : runCommand i s e = .next t) : Ends (encode i) s P t := by
  rcases runCommand_cases i s e with
    ⟨halt, r⟩ | ⟨run, _, r⟩ | ⟨run, _, ⟨u, rfl, r⟩ | ⟨c, rfl, r⟩ | ⟨k, u, rfl, r⟩⟩ <;>
    rw [r] at h <;> cases h
  · exact .ignored halt
  · exact .faulted run _
  · exact .succeeded run he
  · exact .faulted run c
  · exact .errored run k he

end Sys2Proof.Proofs
end

section
/-!
The frame of a command: the registers that are not its destinations, RES but for the predicates, FAULT,
FINFO, the list lengths and what belongs to the host stay, and DBUF changes by an `Append` alone.
-/

namespace Sys2Proof.Proofs

open Sys2Proof Sys2Proof.Machine Sys2Proof.Laws

/-! ### Writing one register -/

theorem sameRegister_refl (s : State) : ∀ r, sameRegister s s r
  | (.fp, _) | (.fp2, _) | (.fp6, _) | (.fp12, _) | (.g1, _) | (.g2, _) | (.k, _) => rfl

theorem sameRegister_trans {s t u : State} :
    ∀ {r}, sameRegister s t r → sameRegister t u r → sameRegister s u r
  | (.fp, _), h, k | (.fp2, _), h, k | (.fp6, _), h, k | (.fp12, _), h, k | (.g1, _), h, k
  | (.g2, _), h, k | (.k, _), h, k => Eq.trans k h

/-- `t` is `s` but for register `r` and the model's own `entropy` and `draws`. -/
structure OnlyWrites (r : FileName × Field6) (s t : State) : Prop where
  registers : ∀ q, q ≠ r → sameRegister s t q
  res : t.res = s.res
  fault : t.fault = s.fault
  finfo : t.finfo = s.finfo
  lena : t.lena = s.lena
  lenb : t.lenb = s.lenb
  dbuf : t.dbuf = s.dbuf
  host : t.host = s.host
  hostData : t.hostData = s.hostData

/-- A write through `dst` goes to the register file `name`. -/
def WritesFile {α : Type} (dst : RegFile α) (name : FileName) : Prop :=
  ∀ s f v, OnlyWrites (name, f) s (dst.write s f v)

theorem writeReg_getElem?_other {α : Type} {n : Nat} (v : Vector (Reg α) n) (x : α)
    {name : FileName} {f g : Field6} (h : (name, g) ≠ (name, f)) :
    (writeReg v f x)[g.toNat]? = v[g.toNat]? :=
  Vector.getElem?_setIfInBounds_ne fun e => h (congrArg _ (BitVec.eq_of_toNat_eq e).symm)

/-- Each of the seven ways to a file writes its own file (R42). -/
@[simp] theorem writesFile : WritesFile fpFile .fp ∧ WritesFile fp2File .fp2 ∧
    WritesFile fp6File .fp6 ∧ WritesFile fp12File .fp12 ∧ WritesFile g1File .g1 ∧
    WritesFile g2File .g2 ∧ WritesFile kFile .k := by
  refine ⟨?_, ?_, ?_, ?_, ?_, ?_, ?_⟩
  all_goals
    refine fun s f v => ⟨?_, rfl, rfl, rfl, rfl, rfl, rfl, rfl, rfl⟩
    rintro ⟨name, g⟩ h
    cases name <;> first | exact writeReg_getElem?_other _ _ h | rfl

@[simp] theorem g1Group_file : g1Group.file = g1File := rfl
@[simp] theorem g2Group_file : g2Group.file = g2File := rfl

/-! ### The frame -/

/-- The registers that command `i` does not name as a destination, RES but for the predicates, the list
lengths and what belongs to the host are in `t` as in `s` (R45, R54, R55, R165). -/
structure Untouched (i : Instr) (s t : State) : Prop where
  registers : ∀ r, r ∉ instrDests i → sameRegister s t r
  res : instrWritesRes i = false → t.res = s.res
  lena : t.lena = s.lena
  lenb : t.lenb = s.lenb
  host : t.host = s.host
  hostData : t.hostData = s.hostData

/-- What a success of command `i` leaves: FAULT and FINFO besides, and of DBUF all but an `Append` that
ends inside it (R21, R50, R51). -/
structure Frame (i : Instr) (s t : State) : Prop extends Untouched i s t where
  fault : t.fault = s.fault
  finfo : t.finfo = s.finfo
  memory : t.dbuf = s.dbuf ∨ ∃ bytes, windowEnd s + bytes.length ≤ Config.bufBytes ∧
    t.dbuf = memWriteRange s.dbuf (windowEnd s) bytes

section Steps

variable {α F : Type} {i : Instr} {s t : State}

/-- The other fields may change. -/
theorem Untouched.with_others (h : Untouched i s t) {err fault finfo bptr blen : Word32}
    {dbuf : List Host.Cell} {entropy : List EntropyAnswer} {draws : Nat} :
    Untouched i s { t with err, fault, finfo, bptr, blen, dbuf, entropy, draws } :=
  ⟨h.registers, h.res, h.lena, h.lenb, h.host, h.hostData⟩

theorem Frame.with_others (h : Frame i s t) {err bptr blen : Word32}
    {entropy : List EntropyAnswer} {draws : Nat} :
    Frame i s { t with err, bptr, blen, entropy, draws } :=
  ⟨h.toUntouched.with_others, h.fault, h.finfo, h.memory⟩

theorem Frame.refl (i : Instr) (s : State) : Frame i s s :=
  ⟨⟨fun r _ => sameRegister_refl s r, fun _ => rfl, rfl, rfl, rfl, rfl⟩, rfl, rfl, .inl rfl⟩

theorem Frame.write (h : Frame i s t) {dst : RegFile α} {name : FileName}
    (hd : WritesFile dst name) {rd : Field6} (hr : (name, rd) ∈ instrDests i) {v : α} :
    Frame i s (dst.write t rd v) := by
  have w := hd t rd v
  exact ⟨⟨fun r hn => sameRegister_trans (h.registers r hn) (w.registers r fun e => hn (e ▸ hr)),
    fun hi => w.res.trans (h.res hi), w.lena.trans h.lena, w.lenb.trans h.lenb,
    w.host.trans h.host, w.hostData.trans h.hostData⟩, w.fault.trans h.fault,
    w.finfo.trans h.finfo, w.dbuf ▸ h.memory⟩

theorem Frame.append {bytes : List Byte} (room : windowEnd s + bytes.length ≤ Config.bufBytes) :
    Frame i s (append bytes s) :=
  ⟨(Frame.refl i s).toUntouched.with_others, rfl, rfl, .inr ⟨bytes, room, rfl⟩⟩

theorem Frame.afterRequest (h : Frame i s t) : Frame i s (afterRequest t) := by
  unfold Machine.afterRequest
  split <;> exact h.with_others

theorem Frame.writePoint [DecidableEq F] (h : Frame i s t) {G : PointGroup F} {name : FileName}
    (hd : WritesFile G.file name) {rd : Field6} (hr : (name, rd) ∈ instrDests i) {p : Aff F} :
    Frame i s (writePoint G rd p t) :=
  (h.write hd hr).with_others

end Steps

theorem write_frame {α : Type} {i : Instr} {s : State} {dst : RegFile α} {name : FileName}
    {rd : Field6} {v : α} (hi : instrDests i = [(name, rd)]) (hd : WritesFile dst name) :
    Frame i s (dst.write s rd v) :=
  (Frame.refl i s).write hd (by simp [hi])

theorem writePoint_frame {F : Type} [DecidableEq F] {i : Instr} {s : State} {G : PointGroup F}
    {name : FileName} {rd : Field6} {p : Aff F} (hi : instrDests i = [(name, rd)])
    (hd : WritesFile G.file name) : Frame i s (writePoint G rd p s) :=
  (Frame.refl i s).writePoint hd (by simp [hi])

theorem pointRandom_frame {F : Type} [DecidableEq F] {i : Instr} {s : State} {G : PointGroup F}
    {name : FileName} {rd kd : Field6} {p : Aff F} {k : Nat}
    (hi : instrDests i = [(name, rd), (.k, kd)]) (hd : WritesFile G.file name) :
    Frame i s (writePoint G rd p (kFile.write (afterRequest s) kd k)) :=
  ((Frame.refl i s).afterRequest.write (name := .k) (by simp) (by simp [hi])).writePoint hd
    (by simp [hi])

theorem setRes_frame {i : Instr} {s : State} {r : Bool} (hi : instrWritesRes i = true) :
    Frame i s (setRes s r) :=
  ⟨⟨fun r _ => sameRegister_refl s r, fun hn => absurd hi (by simp [hn]), rfl, rfl, rfl, rfl⟩,
    rfl, rfl, .inl rfl⟩

/-- Every command is the common frame around an effect, and a success of its effect keeps the frame. -/
theorem exec_effect_frame (s : State) :
    ∀ i : Instr, ∃ e, exec i s = runCommand i s e ∧ EndingIn s (Frame i s) e
  | .fpAdd .. | .fpSub .. | .fpMul .. | .fp2Add .. | .fp2Sub .. | .fp2Mul .. | .fp6Add ..
  | .fp6Sub .. | .fp6Mul .. | .fp12Add .. | .fp12Sub .. | .fp12Mul .. | .fp12Exp .. | .miller ..
  | .pair .. | .fp2Pack .. | .fp12Pack .. =>
    ⟨_, rfl, binary_endsIn fun _ _ _ _ => write_frame rfl (by simp)⟩
  | .fpNeg .. | .fpSqr .. | .fpMov .. | .fp2Neg .. | .fp2Sqr .. | .fp2Mov .. | .fp2Mulxi ..
  | .fp6Neg .. | .fp6Sqr .. | .fp6Mov .. | .fp6Frob .. | .fp6Frobp2 .. | .fp6Frobp4 ..
  | .fp6Multau .. | .fp12Neg .. | .fp12Sqr .. | .fp12Mov .. | .fp12Frob .. | .fp12Frobp2 ..
  | .fp12Frobp4 .. | .fp12Conj .. | .gtBaseexp .. | .g1Aff .. | .g1Mov .. | .g2Aff .. | .g2Mov ..
  | .fp2Get .. | .fp6Get .. | .fp12Get .. | .kMov .. =>
    ⟨_, rfl, unary_endsIn fun _ _ => write_frame rfl (by simp)⟩
  | .fpInv .. | .fp2Inv .. | .fp6Inv .. | .fp12Inv .. | .finalexp .. =>
    ⟨_, rfl, unaryNonzero_endsIn fun _ _ => write_frame rfl (by simp)⟩
  | .fpZero .. | .fpOne .. | .fp2Zero .. | .fp2One .. | .fp6Zero .. | .fp6One .. | .fp12Zero ..
  | .fp12One .. | .g1Inf .. | .g2Inf .. | .kLdi .. =>
    ⟨_, rfl, constant_endsIn (write_frame rfl (by simp))⟩
  | .fp6Pack .. => ⟨_, rfl, ternary_endsIn fun _ _ _ _ _ _ => write_frame rfl (by simp)⟩
  | .fpIszero .. | .fpIsone .. | .fp2Iszero .. | .fp2Isone .. | .fp6Iszero .. | .fp6Isone ..
  | .fp12Iszero .. | .fp12Isone .. | .g1Oncurve .. | .g2Oncurve .. =>
    ⟨_, rfl, test_endsIn fun _ => setRes_frame rfl⟩
  | .fpEq .. | .fp2Eq .. | .fp6Eq .. | .fp12Eq .. => ⟨_, rfl, test2_endsIn fun _ => setRes_frame rfl⟩
  | .pairchk .. => ⟨_, rfl, pairCheck_endsIn fun _ => setRes_frame rfl⟩
  | .fpEnc .. => ⟨_, rfl, encodeReg_endsIn fun a _ room => .append (toBytes_length a ▸ room)⟩
  | .fp2Enc .. => ⟨_, rfl, encodeReg_endsIn fun a _ room => .append (fp2_toBytes_length a ▸ room)⟩
  | .fp12Enc .. => ⟨_, rfl, encodeReg_endsIn fun a _ room => .append (fp12_toBytes_length a ▸ room)⟩
  | .g1Marshal .. => ⟨_, rfl, encodeReg_endsIn fun _ _ room => .append (g1Bytes_length _ ▸ room)⟩
  | .g2Marshal .. => ⟨_, rfl, encodeReg_endsIn fun _ _ room => .append (g2Bytes_length _ ▸ room)⟩
  | .kSt .. => ⟨_, rfl, storeScalar_endsIn fun k _ room => .append (bytesBE_length k 32 ▸ room)⟩
  | .fpDec .. | .fp2Dec .. | .fp12Dec .. =>
    ⟨_, rfl, decodeReg_endsIn fun _ => (write_frame rfl (by simp)).with_others⟩
  | .kLd .. => ⟨_, rfl, withWindow_endsIn fun _ => (write_frame rfl (by simp)).with_others⟩
  | .g1Unmarshal .. | .g2Unmarshal .. =>
    ⟨_, rfl, pointDecode_endsIn (write_frame rfl (by simp)).with_others
      fun _ _ => (write_frame rfl (by simp)).with_others⟩
  | .g1Add .. | .g2Add .. =>
    ⟨_, rfl, pointAdd_endsIn (fun _ _ _ => write_frame rfl (by simp))
      fun _ _ _ _ => writePoint_frame rfl (by simp)⟩
  | .g1Dbl .. | .g1Neg .. | .g2Dbl .. | .g2Neg .. =>
    ⟨_, rfl, pointUnary_endsIn fun _ _ => writePoint_frame rfl (by simp)⟩
  | .g1Mul .. | .g2Mul .. => ⟨_, rfl, pointMul_endsIn fun _ _ _ => writePoint_frame rfl (by simp)⟩
  | .g1Basemul .. | .g2Basemul .. =>
    ⟨_, rfl, pointBaseMul_endsIn fun _ => writePoint_frame rfl (by simp)⟩
  | .g1Random .. | .g2Random .. =>
    ⟨_, rfl, pointRandom_endsIn fun _ => pointRandom_frame rfl (by simp)⟩

theorem exec_ends_frame {i : Instr} {s t : State} (h : exec i s = .next t) :
    Ends (encode i) s (Frame i s) t := by
  obtain ⟨e, he, ends⟩ := exec_effect_frame s i
  exact runCommand_ends ends (he ▸ h)

theorem errored_frame {i : Instr} {s u : State} (h : u = s ∨ u = afterRequest s) : Frame i s u := by
  rcases h with rfl | rfl
  · exact .refl i u
  · exact (Frame.refl i s).afterRequest

theorem exec_untouched {i : Instr} {s t : State} (h : exec i s = .next t) : Untouched i s t := by
  cases exec_ends_frame h with
  | ignored _ => exact (Frame.refl i s).toUntouched
  | faulted _ _ => exact (Frame.refl i s).toUntouched.with_others
  | succeeded _ hu => exact hu.toUntouched.with_others
  | errored _ _ hu => exact (errored_frame hu).toUntouched.with_others

/-- Settles O39: the registers and RES by the frame of the effect, the window by what `Consume` and
`Append` can do. -/
theorem registerFrame : Obligations.RegisterFrame := by
  intro i s t h
  obtain ⟨registers, res, lena, lenb, host, hostData⟩ := exec_untouched h
  refine ⟨registers, res, lena, lenb, host, hostData, ?_⟩
  rintro ⟨appends, needs, notLoad⟩
  cases exec_moves h with
  | kept same => exact ⟨same.bptr, same.blen⟩
  | consumed len amount _ bptr blen _ =>
    have hlen : len = 0 := amount.elim (·.trans needs) fun ⟨kd, hi, _⟩ => absurd hi (notLoad kd)
    subst hlen
    exact ⟨BitVec.eq_of_toNat_eq bptr, BitVec.eq_of_toNat_eq blen⟩
  | appended bytes amount bptr blen _ =>
    rw [amount, appends] at blen
    exact ⟨bptr, BitVec.eq_of_toNat_eq blen⟩

end Sys2Proof.Proofs
end

section
/-!
The command word and the command determine each other (R124, R128, R143): what each format reads, then the
two round trips of the opcode map.
-/

namespace Sys2Proof.Proofs

open Sys2Proof Sys2Proof.Machine Sys2Proof.Laws

/-! ### The formats -/

section Formats

variable {w : Word32} {i : Instr}

theorem unusedZero_ok {ok : Bool} {j : Instr} : unusedZero ok j = .ok i ↔ ok = true ∧ j = i := by
  cases ok <;> simp [unusedZero]

@[simp] theorem formD_ok {f : Field6 → Instr} : formD w f = .ok i ↔
    (fieldB w = 0 ∧ fieldC w = 0 ∧ fieldD w = 0) ∧ f (fieldA w) = i := by
  simp [formD, unusedZero_ok, and_assoc]

@[simp] theorem formS_ok {f : Field6 → Instr} : formS w f = .ok i ↔
    (fieldA w = 0 ∧ fieldC w = 0 ∧ fieldD w = 0) ∧ f (fieldB w) = i := by
  simp [formS, unusedZero_ok, and_assoc]

@[simp] theorem formDS_ok {f : Field6 → Field6 → Instr} : formDS w f = .ok i ↔
    (fieldC w = 0 ∧ fieldD w = 0) ∧ f (fieldA w) (fieldB w) = i := by
  simp [formDS, unusedZero_ok]

@[simp] theorem formSS_ok {f : Field6 → Field6 → Instr} : formSS w f = .ok i ↔
    (fieldA w = 0 ∧ fieldD w = 0) ∧ f (fieldB w) (fieldC w) = i := by
  simp [formSS, unusedZero_ok]

@[simp] theorem formDSS_ok {f : Field6 → Field6 → Field6 → Instr} : formDSS w f = .ok i ↔
    fieldD w = 0 ∧ f (fieldA w) (fieldB w) (fieldC w) = i := by
  simp [formDSS, unusedZero_ok]

@[simp] theorem formDSSS_ok {f : Field6 → Field6 → Field6 → Field6 → Instr} :
    formDSSS w f = .ok i ↔ f (fieldA w) (fieldB w) (fieldC w) (fieldD w) = i := by
  simp [formDSSS]

@[simp] theorem formDI_ok {f : Field6 → BitVec 18 → Instr} :
    formDI w f = .ok i ↔ f (fieldA w) (fieldImm w) = i := by
  simp [formDI]

end Formats

/-! ### The immediate -/

/-- The immediate is the fields B, C and D together (R125 (b)). -/
theorem fieldImm_toNat (w : Word32) : (fieldImm w).toNat =
    ((fieldB w).toNat * 64 + (fieldC w).toNat) * 64 + (fieldD w).toNat := by
  simp only [fieldImm, fieldB, fieldC, fieldD, BitVec.extractLsb'_toNat, Nat.shiftRight_eq_div_pow]
  omega

theorem fieldImm_parts (w : Word32) : (fieldImm w).extractLsb' 12 6 = fieldB w ∧
    (fieldImm w).extractLsb' 6 6 = fieldC w ∧ (fieldImm w).extractLsb' 0 6 = fieldD w := by
  have := (fieldB w).isLt; have := (fieldC w).isLt; have := (fieldD w).isLt
  refine ⟨?_, ?_, ?_⟩ <;> apply BitVec.eq_of_toNat_eq <;>
    simp only [BitVec.extractLsb'_toNat, Nat.shiftRight_eq_div_pow, fieldImm_toNat] <;> omega

theorem fieldImm_of_parts {w : Word32} {imm : BitVec 18} (hb : fieldB w = imm.extractLsb' 12 6)
    (hc : fieldC w = imm.extractLsb' 6 6) (hd : fieldD w = imm.extractLsb' 0 6) :
    fieldImm w = imm := by
  have := imm.isLt
  apply BitVec.eq_of_toNat_eq
  rw [fieldImm_toNat, hb, hc, hd]
  simp only [BitVec.extractLsb'_toNat, Nat.shiftRight_eq_div_pow]
  omega

/-! ### The two round trips -/

theorem decodeRow_fields {w : Word32} {i : Instr} (h : decodeRow w = .ok i) :
    i.opcode = opField w ∧ i.fields = (fieldA w, fieldB w, fieldC w, fieldD w) := by
  have himm := fieldImm_parts w
  unfold decodeRow at h
  split at h
  all_goals
    rename_i hop
    simp only [formD_ok, formS_ok, formDS_ok, formSS_ok, formDSS_ok, formDSSS_ok, formDI_ok,
      reduceCtorEq] at h
  all_goals
    obtain ⟨_, rfl⟩ := h
    exact ⟨BitVec.eq_of_toNat_eq hop.symm, by simp [Instr.fields, *]⟩

theorem decodeRow_encode (i : Instr) : decodeRow (encode i) = .ok i := by
  obtain ⟨ho, ha, hb, hc, hd⟩ := EncodedFields.any i
  unfold decodeRow
  rw [ho]
  cases i
  case fpAdd | fpSub | fpMul | fp2Add | fp2Sub | fp2Mul | fp6Add | fp6Sub | fp6Mul | fp12Add |
      fp12Sub | fp12Mul | fp12Exp | g1Add | g1Mul | g2Add | g2Mul | miller | pair | fp2Pack | fp2Get
      | fp6Get | fp12Pack | fp12Get =>
    exact formDSS_ok.mpr ⟨hd, by rw [ha, hb, hc]; rfl⟩
  case fpNeg | fpSqr | fpInv | fpMov | fp2Neg | fp2Sqr | fp2Inv | fp2Mov | fp2Mulxi | fp6Neg |
      fp6Sqr | fp6Inv | fp6Mov | fp6Frob | fp6Frobp2 | fp6Frobp4 | fp6Multau | fp12Neg | fp12Sqr |
      fp12Inv | fp12Mov | fp12Frob | fp12Frobp2 | fp12Frobp4 | fp12Conj | gtBaseexp | g1Dbl | g1Neg
      | g1Basemul | g1Aff | g1Mov | g1Random | g2Dbl | g2Neg | g2Basemul | g2Aff | g2Mov | g2Random
      | finalexp | kMov =>
    exact formDS_ok.mpr ⟨⟨hc, hd⟩, by rw [ha, hb]; rfl⟩
  case fpZero | fpOne | fpDec | fp2Zero | fp2One | fp2Dec | fp6Zero | fp6One | fp12Zero | fp12One |
      fp12Dec | g1Inf | g1Unmarshal | g2Inf | g2Unmarshal | kLd =>
    exact formD_ok.mpr ⟨⟨hb, hc, hd⟩, by rw [ha]; rfl⟩
  case fpIszero | fpIsone | fpEnc | fp2Iszero | fp2Isone | fp2Enc | fp6Iszero | fp6Isone |
      fp12Iszero | fp12Isone | fp12Enc | g1Oncurve | g1Marshal | g2Oncurve | g2Marshal | kSt =>
    exact formS_ok.mpr ⟨⟨ha, hc, hd⟩, by rw [hb]; rfl⟩
  case fpEq | fp2Eq | fp6Eq | fp12Eq | pairchk =>
    exact formSS_ok.mpr ⟨⟨ha, hd⟩, by rw [hb, hc]; rfl⟩
  case fp6Pack =>
    exact formDSSS_ok.mpr (by rw [ha, hb, hc, hd]; rfl)
  case kLdi =>
    exact formDI_ok.mpr (by rw [ha, fieldImm_of_parts hb hc hd]; rfl)

theorem checkLegal_ok {i j : Instr} : checkLegal i = .ok j ↔ i = j ∧ i.wellFormed = true := by
  unfold checkLegal Instr.wellFormed
  cases i.indicesLegal <;> cases i.selLegal <;> simp

theorem decode_ok {w : Word32} {i : Instr} :
    decode w = .ok i ↔ decodeRow w = .ok i ∧ i.wellFormed = true := by
  unfold decode
  cases decodeRow w with
  | error e => simp
  | ok j =>
    simp only [checkLegal_ok, Except.ok.injEq]
    exact ⟨fun ⟨hj, legal⟩ => ⟨hj, hj ▸ legal⟩, fun ⟨hj, legal⟩ => ⟨hj, hj ▸ legal⟩⟩

/-- The word of a legal command decodes to it (R143). -/
theorem decode_encode {i : Instr} (legal : i.wellFormed = true) : decode (encode i) = .ok i :=
  decode_ok.mpr ⟨decodeRow_encode i, legal⟩

/-- A word that decodes is the word of its command (R124, R128). -/
theorem encode_of_decode {w : Word32} {i : Instr} (h : decode w = .ok i) : encode i = w := by
  obtain ⟨hop, hfields⟩ := decodeRow_fields (decode_ok.mp h).1
  have hw := w.isLt
  apply BitVec.eq_of_toNat_eq
  rw [encode, hop, hfields, packWord_toNat]
  simp only [opField, fieldA, fieldB, fieldC, fieldD, BitVec.extractLsb'_toNat,
    Nat.shiftRight_eq_div_pow]
  omega

end Sys2Proof.Proofs
end

section
/-!
What the host's accesses do: a word written to CMD, the other accesses, and reset; with them the control
registers, STATUS, FAULT and FINFO.
-/

namespace Sys2Proof.Proofs

open Sys2Proof Sys2Proof.Machine Sys2Proof.Laws

/-! ### Bits of FAULT and STATUS -/

theorem halted_iff {s : State} : halted s = true ↔ faultCode s ≠ 0 := by
  simp [halted]

theorem running_iff {s : State} : halted s = false ↔ faultCode s = 0 := by
  simp [halted]

theorem halted_congr {s t : State} (h : t.fault = s.fault) : halted t = halted s := by
  rw [halted, halted, faultCode, faultCode, h]

theorem halted_takeFault (c : FaultKind) (w : Word32) (s : State) :
    halted (takeFault c w s) = true := by
  cases c <;> rfl

theorem faultNumber_le (c : FaultKind) : (faultNumber c).toNat ≤ 6 := by
  cases c <;> decide

theorem errorNumber_le (k : ErrorKind) : (errorNumber k).toNat ≤ 3 := by
  cases k <;> decide

theorem getLsbD_of_toNat_lt {v : Word32} {j k : Nat} (h : v.toNat < 2 ^ k) (hj : k ≤ j) :
    v.getLsbD j = false :=
  Nat.testBit_lt_two_pow (h.trans_le (Nat.pow_le_pow_right (by decide) hj))

theorem statusWord_bits (s : State) : (statusWord s).getLsbD 0 = s.res ∧
    (statusWord s).getLsbD 1 = halted s ∧ (statusWord s).toNat < 2 ^ 2 := by
  unfold statusWord
  generalize s.res = r, halted s = b
  cases r <;> cases b <;> decide

/-! ### A word written to CMD -/

theorem Ends.mono {w : Word32} {s t : State} {P Q : State → Prop} (h : Ends w s P t)
    (imp : ∀ u, P u → Q u) : Ends w s Q t := by
  cases h with
  | ignored halt => exact .ignored halt
  | faulted run c => exact .faulted run c
  | succeeded run hu => exact .succeeded run (imp _ hu)
  | errored run k hu => exact .errored run k hu

theorem command_halted {s : State} (h : halted s = true) (w : Word32) : command w s = .next s := by
  simp [command, h]

theorem command_decoded {s : State} {w : Word32} {i : Instr} (run : halted s = false)
    (h : decode w = .ok i) : command w s = exec i s := by
  simp [command, run, h]

/-- Everything a word written to CMD can do (R47, R137). -/
theorem command_cases {w : Word32} {s t : State} (h : command w s = .next t) :
    (halted s = true ∧ t = s) ∨ (halted s = false ∧ t = takeFault .illegalCommand w s) ∨
    (∃ i, decode w = .ok i ∧ exec i s = .next t) := by
  cases run : halted s with
  | true =>
    rw [command_halted run] at h
    cases h
    exact .inl ⟨rfl, rfl⟩
  | false =>
    cases hd : decode w with
    | error e =>
      simp only [command, run, hd, Bool.false_eq_true, if_false] at h
      cases h
      exact .inr (.inl ⟨rfl, rfl⟩)
    | ok i => exact .inr (.inr ⟨i, rfl, command_decoded run hd ▸ h⟩)

theorem command_ends {w : Word32} {s t : State} (h : command w s = .next t) :
    Ends w s (fun u => ∃ i, Frame i s u) t := by
  rcases command_cases h with ⟨halt, rfl⟩ | ⟨run, rfl⟩ | ⟨i, hd, hi⟩
  · exact .ignored halt
  · exact .faulted run _
  · rw [← encode_of_decode hd]
    exact (exec_ends_frame hi).mono fun u hu => ⟨i, hu⟩

/-- A command word leaves FAULT and FINFO, or takes a fault (R50, R51, R463). -/
theorem command_fault_cases {w : Word32} {s t : State} (h : command w s = .next t) :
    (t.fault = s.fault ∧ t.finfo = s.finfo) ∨
    (halted s = false ∧ ∃ c, t = takeFault c w s) := by
  cases command_ends h with
  | ignored _ => exact .inl ⟨rfl, rfl⟩
  | faulted run c => exact .inr ⟨run, c, rfl⟩
  | succeeded _ hu => exact hu.elim fun _ f => .inl ⟨f.fault, f.finfo⟩
  | errored _ _ hu =>
    obtain ⟨_, fault, finfo, _⟩ := errored_same hu
    exact .inl ⟨fault, finfo⟩

theorem exec_halted {s : State} (h : halted s = true) (i : Instr) : exec i s = .next s := by
  obtain ⟨e, he, _⟩ := exec_effect_frame s i
  rw [he, runCommand_halted i s e h]

/-! ### The host's other accesses -/

/-- What an access of the host other than a command or a reset leaves (R46, R67). -/
structure HostKeeps (s t : State) : Prop where
  registers : ∀ r, sameRegister s t r
  err : t.err = s.err
  fault : t.fault = s.fault
  finfo : t.finfo = s.finfo
  memory : t.dbuf = s.dbuf ∨ ∃ j b, j < Config.bufBytes ∧ t.dbuf = memWrite s.dbuf j b

theorem hostKeeps_writeControl (s : State) (v : Word32) (n : Nat) :
    HostKeeps s (writeControl s v n) := by
  unfold writeControl
  split <;> exact ⟨sameRegister_refl s, rfl, rfl, rfl, .inl rfl⟩

theorem hostKeeps_readBuffer (s : State) (j : Nat) : HostKeeps s (readBuffer s j) := by
  unfold readBuffer
  split <;> exact ⟨sameRegister_refl s, rfl, rfl, rfl, .inl rfl⟩

/-- Everything an access of the host can do (R46, R47, R67, R500). -/
theorem access_cases {a : HostAction} {s t : State} (h : access a s = .next t) :
    (a = .reset ∧ t = resetEngine s) ∨ (∃ w, a = .writeReg 0 w ∧ command w s = .next t) ∨
    ((∀ w, a ≠ .writeReg 0 w) ∧ a ≠ .reset ∧ HostKeeps s t) := by
  cases a with
  | writeReg n v =>
    by_cases hn : n = 0
    · subst hn
      exact .inr (.inl ⟨v, rfl, h⟩)
    · rw [access, if_neg hn] at h
      cases h
      exact .inr (.inr ⟨by simp [hn], by simp, hostKeeps_writeControl s v n⟩)
  | readReg n =>
    cases h
    exact .inr (.inr ⟨by simp, by simp, ⟨sameRegister_refl s, rfl, rfl, rfl, .inl rfl⟩⟩)
  | writeByte j b =>
    rw [access] at h
    split at h <;> cases h
    exact .inr (.inr ⟨by simp, by simp,
      ⟨sameRegister_refl s, rfl, rfl, rfl, .inr ⟨j, b, ‹_›, rfl⟩⟩⟩)
  | readByte j =>
    rw [access] at h
    split at h <;> cases h
    exact .inr (.inr ⟨by simp, by simp, hostKeeps_readBuffer s j⟩)
  | reset =>
    cases h
    exact .inl ⟨rfl, rfl⟩

theorem access_hostKeeps {a : HostAction} {s t : State} (hc : ∀ w, a ≠ .writeReg 0 w)
    (hr : a ≠ .reset) (h : access a s = .next t) : HostKeeps s t := by
  rcases access_cases h with ⟨e, _⟩ | ⟨w, e, _⟩ | ⟨_, _, keeps⟩
  · exact absurd e hr
  · exact absurd e (hc w)
  · exact keeps

/-- A step is the host's next access, or idle (R40, R67, R484). -/
theorem step_cases {s t : State} (h : step s = .next t) :
    t = s ∨ ∃ a rest, s.host = a :: rest ∧ access a { s with host := rest } = .next t := by
  unfold step at h
  split at h
  · cases h
    exact .inl rfl
  · exact .inr ⟨_, _, ‹_›, h⟩

/-- A property of states that every access keeps, and that does not look at the accesses to come, is kept
by every step. -/
theorem step_keeps {P : State → Prop} {s t : State}
    (pending : ∀ {s rest}, P s → P { s with host := rest })
    (kept : ∀ {s t}, P s → ∀ {a}, access a s = .next t → P t) (hs : P s) (h : step s = .next t) :
    P t := by
  rcases step_cases h with rfl | ⟨a, rest, _, ha⟩
  · exact hs
  · exact kept (pending hs) ha

/-! ### Reset -/

theorem readReg_afterReset {α : Type} {n : Nat} (zero : α) (f : Field6) :
    readReg (Vector.replicate n (Reg.afterReset zero)) f = none := by
  unfold readReg
  split
  next r h =>
    obtain ⟨_, rfl⟩ := Vector.getElem?_eq_some_iff.mp h
    simp [Reg.afterReset]
  next => rfl

theorem readReg_afterReset_ne {α : Type} {n : Nat} {zero x : α} {f : Field6} :
    readReg (Vector.replicate n (Reg.afterReset zero)) f ≠ some x := by
  simp [readReg_afterReset]

/-- After reset no register is valid (R68). -/
theorem registerValid_resetEngine (s : State) : ∀ r, registerValid (resetEngine s) r = false
  | (.fp, f) | (.fp2, f) | (.fp6, f) | (.fp12, f) | (.g1, f) | (.g2, f) | (.k, f) =>
    congrArg Option.isSome (readReg_afterReset _ f)

/-! ### The statements -/

/-- Settles O5: the decoder gives back the command of an encoded word. -/
theorem stepRunsCommand : Obligations.StepRunsCommand := by
  refine ⟨fun s w rest i hs run hd => ⟨(decode_ok.mp hd).2, ?_⟩, fun s i ready => ?_⟩
  · rw [step, hs]
    exact command_decoded run hd
  · have hw : BitVec.ofNat 32 ((encode i).toNat % 2 ^ 32) = encode i := by
      rw [Nat.mod_eq_of_lt (encode i).isLt, BitVec.ofNat_toNat, BitVec.setWidth_eq]
    rw [step, withFetchWord_host, hw]
    exact command_decoded ready.running (decode_encode ready.legal)

theorem writeControl_other {s : State} {v : Word32} {n : Nat} (h : n < 5 ∨ 8 < n) :
    writeControl s v n = s := by
  unfold writeControl
  split
  case h_5 => rfl
  all_goals omega

/-- Settles O6: number by number. -/
theorem controlRegisterAccess : Obligations.ControlRegisterAccess := by
  intro s v
  have ignores : ∀ n, n ≠ 0 → (n < 5 ∨ 8 < n) → access (.writeReg n v) s = .next s := by
    intro n hn h
    rw [access, if_neg hn, writeControl_other h]
  refine ⟨fun n hn => ⟨ignores n (by omega) (by omega), ?_⟩,
    fun n h1 h4 => ignores n (by omega) (by omega), rfl, rfl, rfl, rfl, fun n h5 h8 => ?_,
    fun n => rfl, rfl, rfl, rfl, rfl, rfl, rfl, rfl, rfl, rfl⟩
  · unfold readControl
    split
    case h_9 => rfl
    all_goals omega
  · interval_cases n
    all_goals
      refine ⟨_, rfl, rfl, fun m hm => ?_⟩
      unfold readControl
      split <;> first | rfl | exact absurd rfl hm

/-- Settles O7: the rules of one byte, inside DBUF. -/
theorem bufferAccess : Obligations.BufferAccess := by
  intro s j b
  refine ⟨fun hj => ?_, fun hj hb => ?_, fun hj hb => ⟨Config.freeByte s.draws, ?_⟩, fun hj => ?_⟩
  · refine ⟨_, if_pos hj, rfl, memRead_memWrite_same _ _ _, fun a ha => ?_⟩
    exact memRead_memWrite_other _ _ (Ne.symm ha)
  · rw [access, if_pos hj, readBuffer, hb]
  · rw [access, if_pos hj, readBuffer, hb]
  · exact ⟨if_neg (by omega), if_neg (by omega)⟩

/-- Settles O8: STATUS is the number RES + 2·HALT. -/
theorem statusView : Obligations.StatusView := by
  refine ⟨fun s => ?_, rfl⟩
  obtain ⟨res, halt, small⟩ := statusWord_bits s
  refine ⟨res, by rw [halt, halted_iff], fun j hj => getLsbD_of_toNat_lt small hj, rfl, fun v => rfl⟩

/-- An access keeps FAULT, writes a fault's number, or clears it by reset. -/
theorem access_fault_le {s t : State} (hs : s.fault.toNat ≤ 6) {a : HostAction}
    (h : access a s = .next t) : t.fault.toNat ≤ 6 := by
  rcases access_cases h with ⟨_, rfl⟩ | ⟨w, _, hw⟩ | ⟨_, _, keeps⟩
  · exact Nat.zero_le 6
  · rcases command_fault_cases hw with ⟨hf, _⟩ | ⟨_, c, rfl⟩
    · exact hf ▸ hs
    · exact faultNumber_le c
  · exact keeps.fault ▸ hs

theorem step_fault_le {s t : State} (hs : s.fault.toNat ≤ 6) (h : step s = .next t) :
    t.fault.toNat ≤ 6 :=
  step_keeps (P := fun s => s.fault.toNat ≤ 6) (fun h => h) access_fault_le hs h

/-- Settles O9: only a command that was not ignored takes a fault. -/
theorem faultRegister : Obligations.FaultRegister := by
  refine ⟨⟨rfl, rfl, rfl, rfl, rfl, rfl⟩, rfl, fun w s t h hne => ?_, fun a s t hr h hc => ?_,
    fun a s t hc hr h => (access_hostKeeps hc hr h).fault, fun s t hs h => ?_⟩
  · rcases command_fault_cases h with ⟨hf, _⟩ | ⟨run, c, rfl⟩
    · exact absurd hf hne
    · exact ⟨running_iff.mp run, c, rfl⟩
  · rcases access_cases h with ⟨e, _⟩ | ⟨w, _, hw⟩ | ⟨_, _, keeps⟩
    · exact absurd e hr
    · rw [command_halted (halted_iff.mpr hc)] at hw
      cases hw
      rfl
    · exact keeps.fault
  · have hle := step_fault_le hs h
    exact ⟨hle, fun j hj => getLsbD_of_toNat_lt (k := 4) (by omega) hj⟩

/-- Settles O10: FINFO is written by fault entry, together with FAULT. -/
theorem finfoRegister : Obligations.FinfoRegister := by
  refine ⟨rfl, fun w s t h => ?_, fun a s t hc hr h => (access_hostKeeps hc hr h).finfo⟩
  rcases command_fault_cases h with same | ⟨run, c, rfl⟩
  · exact .inl same
  · exact .inr ⟨running_iff.mp run, halted_iff.mp (halted_takeFault c w s), rfl⟩

/-- Settles O12: reset writes every field of the engine. -/
theorem resetState : Obligations.ResetState :=
  ⟨⟨registerValid_resetEngine State.reset, fun _ => rfl, rfl, rfl, rfl, rfl, rfl, rfl, rfl, rfl, rfl⟩,
    fun s => ⟨_, rfl, registerValid_resetEngine s, fun _ => rfl, rfl, rfl, rfl, rfl, rfl, rfl, rfl,
      rfl, rfl⟩⟩

/-- An access that exists is answered with a next state. -/
theorem access_next {a : HostAction} (s : State) (hc : ∀ w, a ≠ .writeReg 0 w)
    (hw : ∀ j b, a = .writeByte j b → j < Config.bufBytes)
    (hb : ∀ j, a = .readByte j → j < Config.bufBytes) : ∃ t, access a s = .next t := by
  cases a with
  | writeReg n v => exact ⟨_, if_neg fun hn => hc v (by rw [hn])⟩
  | readReg n => exact ⟨_, rfl⟩
  | writeByte j b => exact ⟨_, if_pos (hw j b rfl)⟩
  | readByte j => exact ⟨_, if_pos (hb j rfl)⟩
  | reset => exact ⟨_, rfl⟩

/-- Settles O14: a command that starts running ends halted only by fault entry, since no success and no
error writes FAULT. -/
theorem faultEntry : Obligations.FaultEntry := by
  refine ⟨fun c w s => ⟨rfl, ?_, command_halted (halted_takeFault c w s)⟩,
    fun s h => ⟨command_halted h, exec_halted h⟩, fun a s h hc hr hw hb => ?_,
    fun i s t ready h halt => ?_⟩
  · rw [(statusWord_bits _).2.1, halted_takeFault]
  · obtain ⟨t, ht⟩ := access_next s hc hw hb
    exact ⟨t, ht, (halted_congr (access_hostKeeps hc hr ht).fault).trans h⟩
  · have still : ∀ u, u.fault = s.fault → halted u ≠ true := fun u hu => by
      simp [halted_congr hu, ready.running]
    cases exec_ends_frame h with
    | ignored halt' => exact absurd halt (still s rfl)
    | faulted _ c => exact ⟨c, rfl⟩
    | succeeded _ hu => exact absurd halt (still _ hu.fault)
    | errored _ _ hu =>
      obtain ⟨_, fault, _, _⟩ := errored_same hu
      exact absurd halt (still _ fault)

/-- Settles O15: a success leaves ERR 0 and FAULT as it was, and the other endings leave RES. -/
theorem resultFlag : Obligations.ResultFlag := by
  refine ⟨fun i s t h hi => (exec_untouched h).res hi, fun i s t h bad => ?_,
    fun s => (statusWord_bits s).1, rfl⟩
  cases exec_ends_frame h with
  | ignored _ => rfl
  | faulted _ _ => rfl
  | succeeded run hu =>
    rcases bad with he | hf
    · exact absurd rfl he
    · exact absurd ((halted_congr hu.fault).symm.trans hf) (by simp [run])
  | errored _ _ hu => exact (errored_same hu).1

end Sys2Proof.Proofs
end

section
/-!
Canonical results (R163): every operation of the tower yields canonical words, the maps that keep a
component included, and so do exponentiation and the two pairing functions.
-/

namespace Sys2Proof.Proofs

open Sys2Proof Sys2Proof.Machine Sys2Proof.Laws

/-! ### Fp2 -/

section Fp2

variable (a b : Fp2)

theorem fp2_add_canonical : Fp2.Canonical Config.params (Fp2.add Config.params a b) :=
  ⟨reduce_canonical _, reduce_canonical _⟩

theorem fp2_sub_canonical : Fp2.Canonical Config.params (Fp2.sub Config.params a b) :=
  ⟨reduce_canonical _, reduce_canonical _⟩

theorem fp2_neg_canonical : Fp2.Canonical Config.params (Fp2.neg Config.params a) :=
  ⟨reduce_canonical _, reduce_canonical _⟩

theorem fp2_mul_canonical : Fp2.Canonical Config.params (Fp2.mul Config.params a b) :=
  ⟨reduce_canonical _, reduce_canonical _⟩

theorem fp2_sqr_canonical : Fp2.Canonical Config.params (Fp2.sqr Config.params a) :=
  ⟨reduce_canonical _, reduce_canonical _⟩

theorem fp2_inv_canonical : Fp2.Canonical Config.params (Fp2.inv Config.params a) :=
  ⟨reduce_canonical _, reduce_canonical _⟩

theorem fp2_ofLimbs_canonical (s : List Byte) (j : Nat) :
    Fp2.Canonical Config.params (Fp2.ofLimbs Config.params s j) :=
  ⟨reduce_canonical _, reduce_canonical _⟩

variable {a}

theorem fp2_conj_canonical (h : Fp2.Canonical Config.params a) :
    Fp2.Canonical Config.params (Fp2.conj Config.params a) :=
  ⟨reduce_canonical _, h.2⟩

theorem fp2_component_canonical (h : Fp2.Canonical Config.params a) (sel : Field6) :
    Fp.Canonical Config.params (Fp2.component sel a) := by
  unfold Fp2.component
  split
  · exact h.1
  · exact h.2

end Fp2

/-! ### Fp6 -/

section Fp6

theorem fp6_zero_canonical : Fp6.Canonical Config.params Fp6.zero :=
  ⟨fp2_zero_canonical, fp2_zero_canonical, fp2_zero_canonical⟩

theorem fp6_one_canonical : Fp6.Canonical Config.params (Fp6.one Config.params) :=
  ⟨fp2_zero_canonical, fp2_zero_canonical, fp2_one_canonical⟩

variable (a b : Fp6)

theorem fp6_add_canonical : Fp6.Canonical Config.params (Fp6.add Config.params a b) :=
  ⟨fp2_add_canonical _ _, fp2_add_canonical _ _, fp2_add_canonical _ _⟩

theorem fp6_sub_canonical : Fp6.Canonical Config.params (Fp6.sub Config.params a b) :=
  ⟨fp2_sub_canonical _ _, fp2_sub_canonical _ _, fp2_sub_canonical _ _⟩

theorem fp6_neg_canonical : Fp6.Canonical Config.params (Fp6.neg Config.params a) :=
  ⟨fp2_neg_canonical _, fp2_neg_canonical _, fp2_neg_canonical _⟩

theorem fp6_mul_canonical : Fp6.Canonical Config.params (Fp6.mul Config.params a b) :=
  ⟨fp2_add_canonical _ _, fp2_add_canonical _ _, fp2_add_canonical _ _⟩

theorem fp6_scale_canonical (s : Fp2) : Fp6.Canonical Config.params (Fp6.scale Config.params s a) :=
  ⟨fp2_mul_canonical _ _, fp2_mul_canonical _ _, fp2_mul_canonical _ _⟩

theorem fp6_inv_canonical : Fp6.Canonical Config.params (Fp6.inv Config.params a) :=
  fp6_scale_canonical _ _

variable {a} (h : Fp6.Canonical Config.params a)
include h

theorem fp6_mulTau_canonical : Fp6.Canonical Config.params (Fp6.mulTau Config.params a) :=
  ⟨h.2.1, h.2.2, fp2_mul_canonical _ _⟩

theorem fp6_frob_canonical : Fp6.Canonical Config.params (Fp6.frob Config.params a) :=
  ⟨fp2_mul_canonical _ _, fp2_mul_canonical _ _, fp2_conj_canonical h.2.2⟩

theorem fp6_frobP2_canonical : Fp6.Canonical Config.params (Fp6.frobP2 Config.params a) :=
  ⟨fp2_mul_canonical _ _, fp2_mul_canonical _ _, h.2.2⟩

theorem fp6_frobP4_canonical : Fp6.Canonical Config.params (Fp6.frobP4 Config.params a) :=
  ⟨fp2_mul_canonical _ _, fp2_mul_canonical _ _, h.2.2⟩

theorem fp6_component_canonical (sel : Field6) :
    Fp2.Canonical Config.params (Fp6.component sel a) := by
  obtain ⟨hx, hy, hz⟩ := h
  unfold Fp6.component
  split
  · exact hx
  · split
    · exact hy
    · exact hz

end Fp6

/-! ### Fp12 -/

section Fp12

theorem fp12_zero_canonical : Fp12.Canonical Config.params Fp12.zero :=
  ⟨fp6_zero_canonical, fp6_zero_canonical⟩

theorem fp12_one_canonical : Fp12.Canonical Config.params (Fp12.one Config.params) :=
  ⟨fp6_zero_canonical, fp6_one_canonical⟩

theorem fp12_ofBytes_canonical (s : List Byte) :
    Fp12.Canonical Config.params (Fp12.ofBytes Config.params s) :=
  ⟨⟨fp2_ofLimbs_canonical _ _, fp2_ofLimbs_canonical _ _, fp2_ofLimbs_canonical _ _⟩,
    fp2_ofLimbs_canonical _ _, fp2_ofLimbs_canonical _ _, fp2_ofLimbs_canonical _ _⟩

variable (a b : Fp12)

theorem fp12_add_canonical : Fp12.Canonical Config.params (Fp12.add Config.params a b) :=
  ⟨fp6_add_canonical _ _, fp6_add_canonical _ _⟩

theorem fp12_sub_canonical : Fp12.Canonical Config.params (Fp12.sub Config.params a b) :=
  ⟨fp6_sub_canonical _ _, fp6_sub_canonical _ _⟩

theorem fp12_neg_canonical : Fp12.Canonical Config.params (Fp12.neg Config.params a) :=
  ⟨fp6_neg_canonical _, fp6_neg_canonical _⟩

theorem fp12_mul_canonical : Fp12.Canonical Config.params (Fp12.mul Config.params a b) :=
  ⟨fp6_add_canonical _ _, fp6_add_canonical _ _⟩

theorem fp12_inv_canonical : Fp12.Canonical Config.params (Fp12.inv Config.params a) :=
  ⟨fp6_mul_canonical _ _, fp6_mul_canonical _ _⟩

/-- The loop of R282 ends with a product, or with one. -/
theorem fp12_pow_canonical (e : Nat) : Fp12.Canonical Config.params (Fp12.pow Config.params a e) := by
  refine msbLoop_rel (fun r _ => Fp12.Canonical Config.params r) _ _ _ e fp12_one_canonical ?_
  intro r m bit _
  cases bit <;> exact fp12_mul_canonical _ _

variable {a} (h : Fp12.Canonical Config.params a)
include h

theorem fp12_conj_canonical : Fp12.Canonical Config.params (Fp12.conj Config.params a) :=
  ⟨fp6_neg_canonical _, h.2⟩

theorem fp12_frob_canonical : Fp12.Canonical Config.params (Fp12.frob Config.params a) :=
  ⟨fp6_scale_canonical _ _, fp6_frob_canonical h.2⟩

theorem fp12_frobP2_canonical : Fp12.Canonical Config.params (Fp12.frobP2 Config.params a) :=
  ⟨fp6_scale_canonical _ _, fp6_frobP2_canonical h.2⟩

theorem fp12_frobP4_canonical : Fp12.Canonical Config.params (Fp12.frobP4 Config.params a) :=
  ⟨fp6_scale_canonical _ _, fp6_frobP4_canonical h.2⟩

theorem fp12_component_canonical (sel : Field6) :
    Fp6.Canonical Config.params (Fp12.component sel a) := by
  unfold Fp12.component
  split
  · exact h.1
  · exact h.2

end Fp12

/-! ### The pairing functions -/

theorem millerOf_canonical (P : Aff MontWord) (Q : Aff Fp2) :
    Fp12.Canonical Config.params (millerOf Config.params P Q) := by
  unfold millerOf
  split
  · exact Config.params_valid.miller_canonical _ _ _ _
  · exact fp12_one_canonical

theorem pairOf_canonical (P : Aff MontWord) (Q : Aff Fp2) :
    Fp12.Canonical Config.params (pairOf Config.params P Q) := by
  unfold pairOf
  split
  · exact Config.params_valid.pair_canonical _ _ _ _
  · exact fp12_one_canonical

end Sys2Proof.Proofs
end

section
/-!
Sets of points that the point commands keep. A register of a point file is to hold canonical words whose
affine image lies in a set; where the set is closed under the group operations and holds the base point and
what the decoder accepts (`PointSet`), every quadruple that a point command writes is of that kind. The
points with canonical coordinates are such a set, and so are those that represent a subgroup of the curve.
-/

namespace Sys2Proof.Proofs

open Sys2Proof Sys2Proof.Machine Sys2Proof.Laws WeierstrassCurve.Affine

/-! ### Quadruples and their affine images -/

/-- The coordinate field of a group carried to `L`, its two constants and its draws among the good values. -/
structure GroupModel {F L : Type} [Field L] (G : PointGroup F) (good : F → Prop) (φ : F → L) : Prop
    extends FieldModel G.ops good φ where
  good_zero : good G.ops.zero
  good_one : good G.ops.one
  map_zero : φ G.ops.zero = 0
  map_one : φ G.ops.one = 1
  good_draw : ∀ s, good (G.draw s).scale ∧ good (G.draw s).x ∧ good (G.draw s).y ∧ good (G.draw s).t

theorem g1_model [Fact Config.params.p.Prime] :
    GroupModel g1Group (Fp.Canonical Config.params) Fp.residue where
  toFieldModel := fp_model
  good_zero := zero_canonical
  good_one := one_canonical
  map_zero := by simp [g1Group, fpOps, zero_eq_enc, residue_enc]
  map_one := by simp [g1Group, fpOps, one_eq_enc, residue_enc]
  good_draw _ := ⟨reduce_canonical _, reduce_canonical _, reduce_canonical _, reduce_canonical _⟩

theorem g2_model [Fact Config.params.p.Prime] [Fact (∀ r : PField, r ^ 2 ≠ -1 + 0 * r)] :
    GroupModel g2Group (Fp2.Canonical Config.params) Fp2.residue where
  toFieldModel := fp2_model
  good_zero := fp2_zero_canonical
  good_one := fp2_one_canonical
  map_zero := by ext <;> simp [g2Group, fp2Ops, Fp2.zero, zero_eq_enc, residue_enc]
  map_one := by
    ext <;> simp [g2Group, fp2Ops, Fp2.one, zero_eq_enc, one_eq_enc, residue_enc,
      QuadraticAlgebra.re_one, QuadraticAlgebra.im_one]
  good_draw _ := ⟨⟨reduce_canonical _, reduce_canonical _⟩, ⟨reduce_canonical _, reduce_canonical _⟩,
    ⟨reduce_canonical _, reduce_canonical _⟩, ⟨reduce_canonical _, reduce_canonical _⟩⟩

section Images

variable {F L : Type} [Field L] {G : PointGroup F} {good : F → Prop} {φ : F → L}

theorem one_ne_zero_of_model (M : GroupModel G good φ) : G.ops.one ≠ G.ops.zero := fun h =>
  zero_ne_one ((M.map_zero.symm.trans (congrArg φ h.symm)).trans M.map_one)

variable [DecidableEq F]

theorem affineOf_of_z_eq_zero {K : FieldOps F} {j : Jac F} (h : j.z = K.zero) :
    affineOf K j = .inf :=
  if_pos h

/-- (λ²x, λ³y, λ, t) has the affine image (x, y), for λ ≠ 0 (R25). -/
theorem affineOf_scaled (M : GroupModel G good φ) {l x y t : F} (gl : good l) (hl : l ≠ G.ops.zero)
    (gx : good x) (gy : good y) :
    affineOf G.ops ⟨G.ops.mul (G.ops.mul l l) x, G.ops.mul (G.ops.mul (G.ops.mul l l) l) y, l, t⟩ =
      .pt x y := by
  have hφ : φ l ≠ 0 := fun h => hl ((M.inj gl M.good_zero).mp (h.trans M.map_zero.symm))
  rw [affineOf, if_neg hl]
  refine congr (congrArg Aff.pt ((M.inj (M.good_mul _ _) gx).mp ?_))
    ((M.inj (M.good_mul _ _) gy).mp ?_)
  · simp only [M.map_mul, M.map_inv]
    field_simp
  · simp only [M.map_mul, M.map_inv]
    field_simp

theorem affineOf_ofAffine (M : GroupModel G good φ) {x y : F} (gx : good x) (gy : good y) :
    affineOf G.ops (Jac.ofAffine G.ops x y) = .pt x y := by
  have h := affineOf_scaled (t := G.ops.one) M M.good_one (one_ne_zero_of_model M) gx gy
  have one_mul' : ∀ {a}, good a → ∀ b, φ b = 1 → G.ops.mul b a = a := fun ga b hb =>
    (M.inj (M.good_mul _ _) ga).mp (by rw [M.map_mul, hb, one_mul])
  rwa [one_mul' gx _ (by simp [M.map_mul, M.map_one]),
    one_mul' gy _ (by simp [M.map_mul, M.map_one])] at h

/-- An affine image has good coordinates. -/
theorem affineOf_good {K : FieldOps F} (M : FieldModel K good φ) (j : Jac F) :
    Aff.All good (affineOf K j) := by
  unfold affineOf
  split
  · trivial
  · exact ⟨M.good_mul _ _, M.good_mul _ _⟩

end Images

/-! ### Sets of points that the commands keep -/

/-- What a point register is to hold: good words, and an affine image in the set `on`. -/
def PointOk {F : Type} [DecidableEq F] (K : FieldOps F) (good : F → Prop) (on : Aff F → Prop)
    (j : Jac F) : Prop :=
  Jac.All good j ∧ on (affineOf K j)

/-- A set of affine points with good coordinates that holds INF, the base point and what the decoder
accepts, and is closed under the operations of R311. -/
structure PointSet {F : Type} [DecidableEq F] (G : PointGroup F) (base : Aff F) (good : F → Prop)
    (on : Aff F → Prop) : Prop where
  coordinates : ∀ {P}, on P → Aff.All good P
  inf : on .inf
  base : on base
  add : ∀ {P Q}, on P → on Q → on (Aff.add G.ops P Q)
  neg : ∀ {P}, on P → on (Aff.neg G.ops P)
  decoded : ∀ {x y}, good x → good y → G.onCurve (.pt x y) = true → on (.pt x y)

section Kept

variable {F L : Type} [DecidableEq F] [Field L] {G : PointGroup F} {base : Aff F} {good : F → Prop}
  {φ : F → L} {on : Aff F → Prop}

theorem PointSet.smul (S : PointSet G base good on) {P : Aff F} (h : on P) (k : Nat) :
    on (Aff.smul G.ops k P) := by
  refine msbLoop_rel (fun Q _ => on Q) _ _ _ k S.inf ?_
  intro Q m bit hQ
  cases bit with
  | false => exact S.add hQ hQ
  | true => exact S.add (S.add hQ hQ) h

theorem pointOk_infinity (M : GroupModel G good φ) (S : PointSet G base good on) :
    PointOk G.ops good on (Jac.infinity G.ops) :=
  ⟨⟨M.good_zero, M.good_one, M.good_zero, M.good_zero⟩,
    (affineOf_of_z_eq_zero (K := G.ops) (j := Jac.infinity G.ops) rfl).symm ▸ S.inf⟩

theorem pointOk_ofAffine (M : GroupModel G good φ) (S : PointSet G base good on) {x y : F}
    (h : on (.pt x y)) : PointOk G.ops good on (Jac.ofAffine G.ops x y) := by
  obtain ⟨gx, gy⟩ := S.coordinates h
  exact ⟨⟨gx, gy, M.good_one, M.good_one⟩, (affineOf_ofAffine M gx gy).symm ▸ h⟩

/-- Whatever the draw, the quadruple that is written for P has the affine image P (R64). -/
theorem pointOk_drawn (M : GroupModel G good φ) (S : PointSet G base good on) {P : Aff F}
    (h : on P) (s : State) : PointOk G.ops good on (Jac.drawn G.ops (G.draw s) P) := by
  obtain ⟨gs, gx, gy, gt⟩ := M.good_draw s
  cases P with
  | inf =>
    exact ⟨⟨gx, gy, M.good_zero, gt⟩, (affineOf_of_z_eq_zero (K := G.ops)
      (j := ⟨(G.draw s).x, (G.draw s).y, G.ops.zero, (G.draw s).t⟩) rfl).symm ▸ S.inf⟩
  | pt x y =>
    obtain ⟨px, py⟩ := S.coordinates h
    rw [Jac.drawn]
    generalize hl : (if (G.draw s).scale = G.ops.zero then G.ops.one else (G.draw s).scale) = l
    have scale : good l ∧ l ≠ G.ops.zero := by
      subst hl
      split
      · exact ⟨M.good_one, one_ne_zero_of_model M⟩
      · exact ⟨gs, ‹_›⟩
    exact ⟨⟨M.good_mul _ _, M.good_mul _ _, scale.1, gt⟩,
      (affineOf_scaled M scale.1 scale.2 px py).symm ▸ h⟩

/-- AFF keeps the affine image (R315, R345). -/
theorem pointOk_normalise (M : GroupModel G good φ) (S : PointSet G base good on) {j : Jac F}
    (h : PointOk G.ops good on j) : PointOk G.ops good on (Jac.normalise G.ops j) := by
  unfold Jac.normalise
  split
  next => exact h
  next x y hj => exact pointOk_ofAffine M S (hj ▸ h.2)

end Kept

/-! ### The points with good coordinates -/

section Coordinates

variable {F L : Type} [DecidableEq F] [Field L] {G : PointGroup F} {base : Aff F} {good : F → Prop}
  {φ : F → L}

theorem add_coordinates {K : FieldOps F} (M : FieldModel K good φ) {P Q : Aff F}
    (hP : Aff.All good P) (hQ : Aff.All good Q) : Aff.All good (Aff.add K P Q) := by
  cases P with
  | inf => exact hQ
  | pt x1 y1 =>
    cases Q with
    | inf => exact hP
    | pt x2 y2 =>
      rw [Aff.add]
      split
      · split
        · trivial
        · exact ⟨M.good_sub _ _, M.good_sub _ _⟩
      · exact ⟨M.good_sub _ _, M.good_sub _ _⟩

theorem coordinates_pointSet (M : FieldModel G.ops good φ) (hb : Aff.All good base) :
    PointSet G base good (Aff.All good) where
  coordinates h := h
  inf := trivial
  base := hb
  add := add_coordinates M
  neg {P} h := by
    cases P with
    | inf => trivial
    | pt x y => exact ⟨h.1, M.good_neg y⟩
  decoded gx gy _ := ⟨gx, gy⟩

end Coordinates

/-! ### The points that represent a subgroup -/

section Represented

variable {F L : Type} [Field L] {K : FieldOps F} {good : F → Prop} {φ : F → L} {b : L}

theorem Represents.coordinates {P : Aff F} {A : (shortCurve b).Point}
    (h : Represents good φ b P A) : Aff.All good P := by
  cases h with
  | inf => trivial
  | pt gx gy _ => exact ⟨gx, gy⟩

/-- A finite point that represents a point of the curve satisfies its equation. -/
theorem Represents.onCurveEq [DecidableEq F] (M : FieldModel K good φ) {w x y : F}
    {A : (shortCurve (φ w)).Point} (h : Represents good φ (φ w) (.pt x y) A) :
    onCurveEq K w x y = true := by
  cases h with
  | pt _ _ hn => exact (onCurveEq_iff M).mpr ((shortCurve_equation _ _).mp hn.1)

variable [DecidableEq L]

/-- −P of R311 represents the opposite of the group. -/
theorem Represents.neg (M : FieldModel K good φ) {P : Aff F} {A : (shortCurve b).Point}
    (h : Represents good φ b P A) : Represents good φ b (Aff.neg K P) (-A) := by
  cases h with
  | inf =>
    rw [neg_zero]
    exact .inf
  | pt gx gy hn =>
    rw [Point.neg_some]
    refine represents_pt gx (M.good_neg _) rfl ?_ _
    simp [M.map_neg, negY]

/-- The affine points that represent a member of the subgroup `H`. -/
def RepresentedIn (good : F → Prop) (φ : F → L) (H : AddSubgroup (shortCurve b).Point)
    (P : Aff F) : Prop :=
  ∃ A ∈ H, Represents good φ b P A

variable [DecidableEq F] {G : PointGroup F} {base : Aff F} {H : AddSubgroup (shortCurve b).Point}

theorem represented_pointSet (M : FieldModel G.ops good φ) (hb : RepresentedIn good φ H base)
    (decoded : ∀ {x y}, good x → good y → G.onCurve (.pt x y) = true →
      RepresentedIn good φ H (.pt x y)) :
    PointSet G base good (RepresentedIn good φ H) where
  coordinates := fun ⟨_, _, h⟩ => h.coordinates
  inf := ⟨0, H.zero_mem, .inf⟩
  base := hb
  add := fun ⟨_, mA, hA⟩ ⟨_, mB, hB⟩ => ⟨_, H.add_mem mA mB, hA.add M hB⟩
  neg := fun ⟨_, mA, hA⟩ => ⟨_, H.neg_mem mA, hA.neg M⟩
  decoded := decoded

end Represented

end Sys2Proof.Proofs
end

section
/-!
The invariants of every step. `RegistersOk` says that every valid register holds canonical words, and every
valid point register a point of a given set; every step keeps it, command by command. With the set of all
points, of the points of a curve, or of a subgroup, it is the register part of the four statements.
-/

namespace Sys2Proof.Proofs

open Sys2Proof Sys2Proof.Machine Sys2Proof.Laws

/-! ### The registers -/

/-- What register `r` holds, if it is valid: canonical words, and in the point files a point whose affine
image is in `on1` or in `on2`. -/
def registerOk (on1 : Aff MontWord → Prop) (on2 : Aff Fp2 → Prop) (s : State) :
    FileName × Field6 → Prop
  | (.fp, f) => ∀ a, readReg s.fp f = some a → Fp.Canonical Config.params a
  | (.fp2, f) => ∀ a, readReg s.fp2 f = some a → Fp2.Canonical Config.params a
  | (.fp6, f) => ∀ a, readReg s.fp6 f = some a → Fp6.Canonical Config.params a
  | (.fp12, f) => ∀ a, readReg s.fp12 f = some a → Fp12.Canonical Config.params a
  | (.g1, f) => ∀ j, readReg s.g1 f = some j →
      PointOk (fpOps Config.params) (Fp.Canonical Config.params) on1 j
  | (.g2, f) => ∀ j, readReg s.g2 f = some j →
      PointOk (fp2Ops Config.params) (Fp2.Canonical Config.params) on2 j
  | (.k, _) => True

/-- `registerOk` of every register. -/
def RegistersOk (on1 : Aff MontWord → Prop) (on2 : Aff Fp2 → Prop) (s : State) : Prop :=
  ∀ r, registerOk on1 on2 s r

section Registers

variable {on1 : Aff MontWord → Prop} {on2 : Aff Fp2 → Prop} {s t : State}

theorem readReg_congr {α : Type} {n : Nat} {v w : Vector (Reg α) n} {f : Field6}
    (h : w[f.toNat]? = v[f.toNat]?) : readReg w f = readReg v f := by
  rw [readReg, readReg, h]

theorem registerOk_of_same : ∀ {r}, sameRegister s t r → registerOk on1 on2 s r →
    registerOk on1 on2 t r
  | (.fp, _), h, ok | (.fp2, _), h, ok | (.fp6, _), h, ok | (.fp12, _), h, ok | (.g1, _), h, ok
  | (.g2, _), h, ok => fun a ha => ok a (readReg_congr h ▸ ha)
  | (.k, _), _, _ => trivial

theorem RegistersOk.of_same (hs : RegistersOk on1 on2 s) (h : ∀ r, sameRegister s t r) :
    RegistersOk on1 on2 t :=
  fun r => registerOk_of_same (h r) (hs r)

/-- No field but the register files matters. -/
theorem RegistersOk.with_others (hs : RegistersOk on1 on2 s) {res : Bool}
    {err fault finfo bptr blen lena lenb hostData : Word32} {dbuf : List Host.Cell}
    {host : List HostAction} {entropy : List EntropyAnswer} {draws : Nat} :
    RegistersOk on1 on2 { s with res, err, fault, finfo, bptr, blen, lena, lenb, hostData, dbuf,
                                 host, entropy, draws } :=
  hs.of_same (sameRegister_refl s)

theorem RegistersOk.afterRequest (hs : RegistersOk on1 on2 s) :
    RegistersOk on1 on2 (afterRequest s) := by
  unfold Machine.afterRequest
  split <;> exact hs.with_others

/-- What a register reads after a write is what was written. -/
theorem readReg_written {α : Type} {n : Nat} {v : Vector (Reg α) n} {f : Field6} {x : α}
    {P : α → Prop} (h : P x) (a : α) (ha : readReg (writeReg v f x) f = some a) : P a := by
  obtain ⟨hf, _, hc⟩ := readReg_eq_some.mp ha
  rw [writeReg_getElem, if_pos rfl] at hc
  exact hc ▸ h

theorem RegistersOk.write {α : Type} (hs : RegistersOk on1 on2 s) {dst : RegFile α}
    {name : FileName} (hd : WritesFile dst name) {rd : Field6} {v : α}
    (hv : registerOk on1 on2 (dst.write s rd v) (name, rd)) :
    RegistersOk on1 on2 (dst.write s rd v) := by
  intro r
  by_cases hr : r = (name, rd)
  · exact hr ▸ hv
  · exact registerOk_of_same ((hd s rd v).registers r hr) (hs r)

/-! One rule for each file: a value of the right kind keeps the registers so. -/

section Writes

variable (hs : RegistersOk on1 on2 s) {rd : Field6}
include hs

theorem write_fp_ok {v : MontWord} (hv : Fp.Canonical Config.params v) :
    RegistersOk on1 on2 (fpFile.write s rd v) :=
  hs.write (name := .fp) (by simp) (readReg_written hv)

theorem write_fp2_ok {v : Fp2} (hv : Fp2.Canonical Config.params v) :
    RegistersOk on1 on2 (fp2File.write s rd v) :=
  hs.write (name := .fp2) (by simp) (readReg_written hv)

theorem write_fp6_ok {v : Fp6} (hv : Fp6.Canonical Config.params v) :
    RegistersOk on1 on2 (fp6File.write s rd v) :=
  hs.write (name := .fp6) (by simp) (readReg_written hv)

theorem write_fp12_ok {v : Fp12} (hv : Fp12.Canonical Config.params v) :
    RegistersOk on1 on2 (fp12File.write s rd v) :=
  hs.write (name := .fp12) (by simp) (readReg_written hv)

theorem write_g1_ok {j : Jac MontWord}
    (hj : PointOk (fpOps Config.params) (Fp.Canonical Config.params) on1 j) :
    RegistersOk on1 on2 (g1File.write s rd j) :=
  hs.write (name := .g1) (by simp) (readReg_written hj)

theorem write_g2_ok {j : Jac Fp2}
    (hj : PointOk (fp2Ops Config.params) (Fp2.Canonical Config.params) on2 j) :
    RegistersOk on1 on2 (g2File.write s rd j) :=
  hs.write (name := .g2) (by simp) (readReg_written hj)

theorem write_k_ok {v : Nat} : RegistersOk on1 on2 (kFile.write s rd v) :=
  hs.write (name := .k) (by simp) trivial

end Writes

end Registers

/-! ### The point commands -/

/-- A set of points of group `G` together with its register file: reading finds a point of the set, writing
one keeps the registers, and so do the quadruples that the commands form. -/
structure PointFile {F : Type} [DecidableEq F] (on1 : Aff MontWord → Prop) (on2 : Aff Fp2 → Prop)
    (G : PointGroup F) (base : Aff F) (good : F → Prop) (on : Aff F → Prop) : Prop
    extends PointSet G base good on where
  read : ∀ {s f j}, RegistersOk on1 on2 s → G.file.read s f = some j → PointOk G.ops good on j
  write : ∀ {s f j}, RegistersOk on1 on2 s → PointOk G.ops good on j →
    RegistersOk on1 on2 (G.file.write s f j)
  infinity : PointOk G.ops good on (Jac.infinity G.ops)
  ofAffine : ∀ {x y}, on (.pt x y) → PointOk G.ops good on (Jac.ofAffine G.ops x y)
  drawn : ∀ {P}, on P → ∀ s, PointOk G.ops good on (Jac.drawn G.ops (G.draw s) P)
  normalise : ∀ {j}, PointOk G.ops good on j → PointOk G.ops good on (Jac.normalise G.ops j)

theorem fp2_fact : Fact (∀ r : PField, r ^ 2 ≠ -1 + 0 * r) :=
  have := p_fact
  ⟨neg_one_not_square⟩

theorem pointFile1 {on1 : Aff MontWord → Prop} {on2 : Aff Fp2 → Prop} {base : Aff MontWord}
    (S : PointSet g1Group base (Fp.Canonical Config.params) on1) :
    PointFile on1 on2 g1Group base (Fp.Canonical Config.params) on1 :=
  have := p_fact
  { S with
    read := fun {_ f j} hs hj => hs (.g1, f) j hj
    write := fun hs hj => write_g1_ok hs hj
    infinity := pointOk_infinity g1_model S
    ofAffine := pointOk_ofAffine g1_model S
    drawn := pointOk_drawn g1_model S
    normalise := pointOk_normalise g1_model S }

theorem pointFile2 {on1 : Aff MontWord → Prop} {on2 : Aff Fp2 → Prop} {base : Aff Fp2}
    (S : PointSet g2Group base (Fp2.Canonical Config.params) on2) :
    PointFile on1 on2 g2Group base (Fp2.Canonical Config.params) on2 :=
  have := p_fact
  have := fp2_fact
  { S with
    read := fun {_ f j} hs hj => hs (.g2, f) j hj
    write := fun hs hj => write_g2_ok hs hj
    infinity := pointOk_infinity g2_model S
    ofAffine := pointOk_ofAffine g2_model S
    drawn := pointOk_drawn g2_model S
    normalise := pointOk_normalise g2_model S }

section PointCommands

variable {F : Type} [DecidableEq F] {on1 : Aff MontWord → Prop} {on2 : Aff Fp2 → Prop}
  {G : PointGroup F} {base : Aff F} {good : F → Prop} {on : Aff F → Prop} {s : State}
  {rd ra rb kb : Field6} (T : PointFile on1 on2 G base good on) (hs : RegistersOk on1 on2 s)
include T hs

theorem writePoint_ok {P : Aff F} (hP : on P) : RegistersOk on1 on2 (writePoint G rd P s) :=
  (T.write hs (T.drawn hP s)).with_others

theorem pointInf_ok : EndingIn s (RegistersOk on1 on2)
    (constant G.file rd (Jac.infinity G.ops) s) :=
  constant_endsIn (T.write hs T.infinity)

theorem pointMov_ok : EndingIn s (RegistersOk on1 on2) (unary G.file G.file id rd ra s) :=
  unary_endsIn fun _ hj => T.write hs (T.read hs hj)

theorem pointAff_ok : EndingIn s (RegistersOk on1 on2)
    (unary G.file G.file (Jac.normalise G.ops) rd ra s) :=
  unary_endsIn fun _ hj => T.write hs (T.normalise (T.read hs hj))

theorem pointUnary_ok {op : Aff F → Aff F} (hop : ∀ {P}, on P → on (op P)) :
    EndingIn s (RegistersOk on1 on2) (pointUnary G op rd ra s) :=
  pointUnary_endsIn fun _ hp => writePoint_ok T hs (hop (T.read hs hp).2)

theorem pointAdd_ok : EndingIn s (RegistersOk on1 on2) (pointAdd G rd ra rb s) :=
  pointAdd_endsIn (fun _ _ hp => T.write hs (T.read hs hp))
    fun _ _ hp hq => writePoint_ok T hs (T.add (T.read hs hp).2 (T.read hs hq).2)

theorem pointMul_ok : EndingIn s (RegistersOk on1 on2) (pointMul G rd ra kb s) :=
  pointMul_endsIn fun _ k hp => writePoint_ok T hs (T.smul (T.read hs hp).2 k)

theorem pointBaseMul_ok : EndingIn s (RegistersOk on1 on2) (pointBaseMul G base rd kb s) :=
  pointBaseMul_endsIn fun k => writePoint_ok T hs (T.smul T.base k)

theorem pointRandom_ok : EndingIn s (RegistersOk on1 on2) (pointRandom G base rd kb s) :=
  pointRandom_endsIn fun k => writePoint_ok T (write_k_ok hs.afterRequest) (T.smul T.base k)

/-- The decoder of points writes what the validity predicate accepts (R316, R346). -/
theorem pointDecode_ok {len : Nat} {allZero : List Byte → Bool} {coords : List Byte → F × F}
    (hc : ∀ bytes, good (coords bytes).1 ∧ good (coords bytes).2) :
    EndingIn s (RegistersOk on1 on2) (pointDecode G len allZero coords rd s) :=
  pointDecode_endsIn (T.write hs T.infinity).with_others fun bytes on =>
    (T.write hs (T.ofAffine (T.decoded (hc bytes).1 (hc bytes).2 on))).with_others

end PointCommands

/-! ### The commands -/

/-- `on1` and `on2` are sets of points that the commands of G1 and of G2 keep. -/
structure PointSets (on1 : Aff MontWord → Prop) (on2 : Aff Fp2 → Prop) : Prop where
  set1 : PointSet g1Group (g1Gen Config.params) (Fp.Canonical Config.params) on1
  set2 : PointSet g2Group (g2Gen Config.params) (Fp2.Canonical Config.params) on2

section Commands

variable {on1 : Aff MontWord → Prop} {on2 : Aff Fp2 → Prop} {s : State}

/-- Every command is the common frame around an effect, and a success of its effect keeps what the
registers hold. -/
theorem exec_effect_registers (S : PointSets on1 on2) (hs : RegistersOk on1 on2 s) :
    ∀ i : Instr, ∃ e, exec i s = runCommand i s e ∧ EndingIn s (RegistersOk on1 on2) e
  | .fpAdd .. | .fpSub .. | .fpMul .. =>
    ⟨_, rfl, binary_endsIn fun _ _ _ _ => write_fp_ok hs (reduce_canonical _)⟩
  | .fpNeg .. | .fpSqr .. => ⟨_, rfl, unary_endsIn fun _ _ => write_fp_ok hs (reduce_canonical _)⟩
  | .fpInv .. => ⟨_, rfl, unaryNonzero_endsIn fun _ _ => write_fp_ok hs (reduce_canonical _)⟩
  | .fpZero .. => ⟨_, rfl, constant_endsIn (write_fp_ok hs zero_canonical)⟩
  | .fpOne .. => ⟨_, rfl, constant_endsIn (write_fp_ok hs one_canonical)⟩
  | .fpMov _ ra => ⟨_, rfl, unary_endsIn fun a ha => write_fp_ok hs (hs (.fp, ra) a ha)⟩
  | .fpDec .. => ⟨_, rfl, decodeReg_endsIn fun _ =>
      (write_fp_ok hs (reduce_canonical _)).with_others⟩
  | .fp2Get _ ra _ => ⟨_, rfl, unary_endsIn fun a ha =>
      write_fp_ok hs (fp2_component_canonical (hs (.fp2, ra) a ha) _)⟩
  -- Fp2
  | .fp2Add .. => ⟨_, rfl, binary_endsIn fun _ _ _ _ => write_fp2_ok hs (fp2_add_canonical _ _)⟩
  | .fp2Sub .. => ⟨_, rfl, binary_endsIn fun _ _ _ _ => write_fp2_ok hs (fp2_sub_canonical _ _)⟩
  | .fp2Neg .. => ⟨_, rfl, unary_endsIn fun _ _ => write_fp2_ok hs (fp2_neg_canonical _)⟩
  | .fp2Mul .. => ⟨_, rfl, binary_endsIn fun _ _ _ _ => write_fp2_ok hs (fp2_mul_canonical _ _)⟩
  | .fp2Sqr .. => ⟨_, rfl, unary_endsIn fun _ _ => write_fp2_ok hs (fp2_sqr_canonical _)⟩
  | .fp2Mulxi .. => ⟨_, rfl, unary_endsIn fun _ _ => write_fp2_ok hs (fp2_mul_canonical _ _)⟩
  | .fp2Inv .. => ⟨_, rfl, unaryNonzero_endsIn fun _ _ => write_fp2_ok hs (fp2_inv_canonical _)⟩
  | .fp2Zero .. => ⟨_, rfl, constant_endsIn (write_fp2_ok hs fp2_zero_canonical)⟩
  | .fp2One .. => ⟨_, rfl, constant_endsIn (write_fp2_ok hs fp2_one_canonical)⟩
  | .fp2Mov _ ra => ⟨_, rfl, unary_endsIn fun a ha => write_fp2_ok hs (hs (.fp2, ra) a ha)⟩
  | .fp2Dec .. => ⟨_, rfl, decodeReg_endsIn fun _ =>
      (write_fp2_ok hs (fp2_ofLimbs_canonical _ _)).with_others⟩
  | .fp2Pack _ ra rb => ⟨_, rfl, binary_endsIn fun a b ha hb =>
      write_fp2_ok hs ⟨hs (.fp, ra) a ha, hs (.fp, rb) b hb⟩⟩
  | .fp6Get _ ra _ => ⟨_, rfl, unary_endsIn fun a ha =>
      write_fp2_ok hs (fp6_component_canonical (hs (.fp6, ra) a ha) _)⟩
  -- Fp6
  | .fp6Add .. => ⟨_, rfl, binary_endsIn fun _ _ _ _ => write_fp6_ok hs (fp6_add_canonical _ _)⟩
  | .fp6Sub .. => ⟨_, rfl, binary_endsIn fun _ _ _ _ => write_fp6_ok hs (fp6_sub_canonical _ _)⟩
  | .fp6Neg .. => ⟨_, rfl, unary_endsIn fun _ _ => write_fp6_ok hs (fp6_neg_canonical _)⟩
  | .fp6Mul .. => ⟨_, rfl, binary_endsIn fun _ _ _ _ => write_fp6_ok hs (fp6_mul_canonical _ _)⟩
  | .fp6Sqr .. => ⟨_, rfl, unary_endsIn fun _ _ => write_fp6_ok hs (fp6_mul_canonical _ _)⟩
  | .fp6Inv .. => ⟨_, rfl, unaryNonzero_endsIn fun _ _ => write_fp6_ok hs (fp6_inv_canonical _)⟩
  | .fp6Zero .. => ⟨_, rfl, constant_endsIn (write_fp6_ok hs fp6_zero_canonical)⟩
  | .fp6One .. => ⟨_, rfl, constant_endsIn (write_fp6_ok hs fp6_one_canonical)⟩
  | .fp6Mov _ ra => ⟨_, rfl, unary_endsIn fun a ha => write_fp6_ok hs (hs (.fp6, ra) a ha)⟩
  | .fp6Frob _ ra => ⟨_, rfl, unary_endsIn fun a ha =>
      write_fp6_ok hs (fp6_frob_canonical (hs (.fp6, ra) a ha))⟩
  | .fp6Frobp2 _ ra => ⟨_, rfl, unary_endsIn fun a ha =>
      write_fp6_ok hs (fp6_frobP2_canonical (hs (.fp6, ra) a ha))⟩
  | .fp6Frobp4 _ ra => ⟨_, rfl, unary_endsIn fun a ha =>
      write_fp6_ok hs (fp6_frobP4_canonical (hs (.fp6, ra) a ha))⟩
  | .fp6Multau _ ra => ⟨_, rfl, unary_endsIn fun a ha =>
      write_fp6_ok hs (fp6_mulTau_canonical (hs (.fp6, ra) a ha))⟩
  | .fp6Pack _ ra rb rc => ⟨_, rfl, ternary_endsIn fun a b d ha hb hd =>
      write_fp6_ok hs ⟨hs (.fp2, ra) a ha, hs (.fp2, rb) b hb, hs (.fp2, rc) d hd⟩⟩
  | .fp12Get _ ra _ => ⟨_, rfl, unary_endsIn fun a ha =>
      write_fp6_ok hs (fp12_component_canonical (hs (.fp12, ra) a ha) _)⟩
  -- Fp12 and GT
  | .fp12Add .. => ⟨_, rfl, binary_endsIn fun _ _ _ _ => write_fp12_ok hs (fp12_add_canonical _ _)⟩
  | .fp12Sub .. => ⟨_, rfl, binary_endsIn fun _ _ _ _ => write_fp12_ok hs (fp12_sub_canonical _ _)⟩
  | .fp12Neg .. => ⟨_, rfl, unary_endsIn fun _ _ => write_fp12_ok hs (fp12_neg_canonical _)⟩
  | .fp12Mul .. => ⟨_, rfl, binary_endsIn fun _ _ _ _ => write_fp12_ok hs (fp12_mul_canonical _ _)⟩
  | .fp12Sqr .. => ⟨_, rfl, unary_endsIn fun _ _ => write_fp12_ok hs (fp12_mul_canonical _ _)⟩
  | .fp12Inv .. => ⟨_, rfl, unaryNonzero_endsIn fun _ _ => write_fp12_ok hs (fp12_inv_canonical _)⟩
  | .fp12Zero .. => ⟨_, rfl, constant_endsIn (write_fp12_ok hs fp12_zero_canonical)⟩
  | .fp12One .. => ⟨_, rfl, constant_endsIn (write_fp12_ok hs fp12_one_canonical)⟩
  | .fp12Mov _ ra => ⟨_, rfl, unary_endsIn fun a ha => write_fp12_ok hs (hs (.fp12, ra) a ha)⟩
  | .fp12Dec .. => ⟨_, rfl, decodeReg_endsIn fun _ =>
      (write_fp12_ok hs (fp12_ofBytes_canonical _)).with_others⟩
  | .fp12Frob _ ra => ⟨_, rfl, unary_endsIn fun a ha =>
      write_fp12_ok hs (fp12_frob_canonical (hs (.fp12, ra) a ha))⟩
  | .fp12Frobp2 _ ra => ⟨_, rfl, unary_endsIn fun a ha =>
      write_fp12_ok hs (fp12_frobP2_canonical (hs (.fp12, ra) a ha))⟩
  | .fp12Frobp4 _ ra => ⟨_, rfl, unary_endsIn fun a ha =>
      write_fp12_ok hs (fp12_frobP4_canonical (hs (.fp12, ra) a ha))⟩
  | .fp12Conj _ ra => ⟨_, rfl, unary_endsIn fun a ha =>
      write_fp12_ok hs (fp12_conj_canonical (hs (.fp12, ra) a ha))⟩
  | .fp12Exp .. => ⟨_, rfl, binary_endsIn fun _ _ _ _ => write_fp12_ok hs (fp12_pow_canonical _ _)⟩
  | .gtBaseexp .. => ⟨_, rfl, unary_endsIn fun _ _ => write_fp12_ok hs (fp12_pow_canonical _ _)⟩
  | .fp12Pack _ ra rb => ⟨_, rfl, binary_endsIn fun a b ha hb =>
      write_fp12_ok hs ⟨hs (.fp6, ra) a ha, hs (.fp6, rb) b hb⟩⟩
  | .miller .. => ⟨_, rfl, binary_endsIn fun _ _ _ _ => write_fp12_ok hs (millerOf_canonical _ _)⟩
  | .pair .. => ⟨_, rfl, binary_endsIn fun _ _ _ _ => write_fp12_ok hs (pairOf_canonical _ _)⟩
  | .finalexp .. => ⟨_, rfl, unaryNonzero_endsIn fun _ _ =>
      write_fp12_ok hs (fp12_pow_canonical _ _)⟩
  -- points
  | .g1Add .. => ⟨_, rfl, pointAdd_ok (pointFile1 S.set1) hs⟩
  | .g1Dbl .. => ⟨_, rfl, pointUnary_ok (pointFile1 S.set1) hs fun hP => S.set1.add hP hP⟩
  | .g1Neg .. => ⟨_, rfl, pointUnary_ok (pointFile1 S.set1) hs S.set1.neg⟩
  | .g1Mul .. => ⟨_, rfl, pointMul_ok (pointFile1 S.set1) hs⟩
  | .g1Basemul .. => ⟨_, rfl, pointBaseMul_ok (pointFile1 S.set1) hs⟩
  | .g1Aff .. => ⟨_, rfl, pointAff_ok (pointFile1 S.set1) hs⟩
  | .g1Inf .. => ⟨_, rfl, pointInf_ok (pointFile1 S.set1) hs⟩
  | .g1Mov .. => ⟨_, rfl, pointMov_ok (pointFile1 S.set1) hs⟩
  | .g1Unmarshal .. => ⟨_, rfl, pointDecode_ok (pointFile1 S.set1) hs fun _ => ⟨enc_canonical _, enc_canonical _⟩⟩
  | .g1Random .. => ⟨_, rfl, pointRandom_ok (pointFile1 S.set1) hs⟩
  | .g2Add .. => ⟨_, rfl, pointAdd_ok (pointFile2 S.set2) hs⟩
  | .g2Dbl .. => ⟨_, rfl, pointUnary_ok (pointFile2 S.set2) hs fun hP => S.set2.add hP hP⟩
  | .g2Neg .. => ⟨_, rfl, pointUnary_ok (pointFile2 S.set2) hs S.set2.neg⟩
  | .g2Mul .. => ⟨_, rfl, pointMul_ok (pointFile2 S.set2) hs⟩
  | .g2Basemul .. => ⟨_, rfl, pointBaseMul_ok (pointFile2 S.set2) hs⟩
  | .g2Aff .. => ⟨_, rfl, pointAff_ok (pointFile2 S.set2) hs⟩
  | .g2Inf .. => ⟨_, rfl, pointInf_ok (pointFile2 S.set2) hs⟩
  | .g2Mov .. => ⟨_, rfl, pointMov_ok (pointFile2 S.set2) hs⟩
  | .g2Unmarshal .. => ⟨_, rfl, pointDecode_ok (pointFile2 S.set2) hs fun _ =>
      ⟨fp2_ofLimbs_canonical _ _, fp2_ofLimbs_canonical _ _⟩⟩
  | .g2Random .. => ⟨_, rfl, pointRandom_ok (pointFile2 S.set2) hs⟩
  -- scalars
  | .kLd .. => ⟨_, rfl, withWindow_endsIn fun _ => (write_k_ok hs).with_others⟩
  | .kLdi .. => ⟨_, rfl, constant_endsIn (write_k_ok hs)⟩
  | .kMov .. => ⟨_, rfl, unary_endsIn fun _ _ => write_k_ok hs⟩
  -- the flag and DBUF
  | .fpIszero .. | .fpIsone .. | .fp2Iszero .. | .fp2Isone .. | .fp6Iszero .. | .fp6Isone ..
  | .fp12Iszero .. | .fp12Isone .. | .g1Oncurve .. | .g2Oncurve .. =>
    ⟨_, rfl, test_endsIn fun _ => hs.with_others⟩
  | .fpEq .. | .fp2Eq .. | .fp6Eq .. | .fp12Eq .. => ⟨_, rfl, test2_endsIn fun _ => hs.with_others⟩
  | .pairchk .. => ⟨_, rfl, pairCheck_endsIn fun _ => hs.with_others⟩
  | .fpEnc .. | .fp2Enc .. | .fp12Enc .. | .g1Marshal .. | .g2Marshal .. =>
    ⟨_, rfl, encodeReg_endsIn fun _ _ _ => hs.with_others⟩
  | .kSt .. => ⟨_, rfl, storeScalar_endsIn fun _ _ _ => hs.with_others⟩

theorem exec_registersOk {t : State} (S : PointSets on1 on2) (hs : RegistersOk on1 on2 s)
    {i : Instr} (h : exec i s = .next t) : RegistersOk on1 on2 t := by
  obtain ⟨e, he, ends⟩ := exec_effect_registers S hs i
  cases runCommand_ends ends (he ▸ h) with
  | ignored _ => exact hs
  | faulted _ _ => exact hs.with_others
  | succeeded _ hu => exact hu.with_others
  | errored _ _ hu =>
    rcases hu with rfl | rfl
    · exact hs.with_others
    · exact hs.afterRequest.with_others

end Commands

end Sys2Proof.Proofs
end

section
/-!
Every step keeps the invariants: the registers, DBUF, FAULT and ERR one by one, then the four statements,
each with its own set of points.
-/

namespace Sys2Proof.Proofs

open Sys2Proof Sys2Proof.Machine Sys2Proof.Laws

/-! ### The registers -/

section Registers

variable {on1 : Aff MontWord → Prop} {on2 : Aff Fp2 → Prop} {s t : State}

/-- After reset no register is valid, so none holds anything. -/
theorem registersOk_resetEngine (s : State) : RegistersOk on1 on2 (resetEngine s)
  | (.fp, _) | (.fp2, _) | (.fp6, _) | (.fp12, _) | (.g1, _) | (.g2, _) =>
    fun _ ha => absurd ha readReg_afterReset_ne
  | (.k, _) => trivial

theorem access_registersOk (S : PointSets on1 on2) (hs : RegistersOk on1 on2 s) {a : HostAction}
    (h : access a s = .next t) : RegistersOk on1 on2 t := by
  rcases access_cases h with ⟨_, rfl⟩ | ⟨w, _, hw⟩ | ⟨_, _, keeps⟩
  · exact registersOk_resetEngine s
  · rcases command_cases hw with ⟨_, rfl⟩ | ⟨_, rfl⟩ | ⟨i, _, hi⟩
    · exact hs
    · exact hs.with_others
    · exact exec_registersOk S hs hi
  · exact hs.of_same keeps.registers

theorem step_registersOk (S : PointSets on1 on2) (hs : RegistersOk on1 on2 s)
    (h : step s = .next t) : RegistersOk on1 on2 t :=
  step_keeps (fun h => h.with_others) (access_registersOk S) hs h

end Registers

/-! ### DBUF -/

/-- DBUF is in its canonical form and lists addresses below BUF_BYTES alone (R80). -/
def MemoryOk (m : List Host.Cell) : Prop :=
  Memory.wf m = true ∧ ∀ c ∈ m, c.1 < Config.bufBytes

theorem mem_memWrite {m : List Host.Cell} {a : Nat} {b : Byte} {c : Host.Cell}
    (h : c ∈ memWrite m a b) : c = (a, b) ∨ c ∈ m := by
  induction m with
  | nil => simpa [memWrite] using h
  | cons d m ih =>
    obtain ⟨k, v⟩ := d
    unfold memWrite at h
    split at h
    · simpa using h
    · split at h
      · simp only [List.mem_cons] at h ⊢
        tauto
      · simp only [List.mem_cons] at h ⊢
        tauto

theorem memoryOk_memWrite {m : List Host.Cell} {a : Nat} (b : Byte) (hm : MemoryOk m)
    (ha : a < Config.bufBytes) : MemoryOk (memWrite m a b) := by
  refine ⟨memWrite_wf a b hm.1, fun c hc => ?_⟩
  rcases mem_memWrite hc with rfl | hc
  · exact ha
  · exact hm.2 c hc

theorem memoryOk_memWriteRange (bs : List Byte) :
    ∀ {m : List Host.Cell} {a : Nat}, MemoryOk m → a + bs.length ≤ Config.bufBytes →
      MemoryOk (memWriteRange m a bs) := by
  induction bs with
  | nil => exact fun hm _ => hm
  | cons b bs ih =>
    intro m a hm ha
    rw [List.length_cons] at ha
    exact ih (memoryOk_memWrite b hm (by omega)) (by omega)

theorem Frame.memoryOk {i : Instr} {s u : State} (h : Frame i s u) (hs : MemoryOk s.dbuf) :
    MemoryOk u.dbuf := by
  rcases h.memory with e | ⟨bytes, room, e⟩
  · exact e ▸ hs
  · exact e ▸ memoryOk_memWriteRange bytes hs room

theorem access_memoryOk {s t : State} (hs : MemoryOk s.dbuf) {a : HostAction}
    (h : access a s = .next t) : MemoryOk t.dbuf := by
  rcases access_cases h with ⟨_, rfl⟩ | ⟨w, _, hw⟩ | ⟨_, _, keeps⟩
  · exact ⟨reset_memory_wf, fun _ hc => nomatch hc⟩
  · cases command_ends hw with
    | ignored _ => exact hs
    | faulted _ _ => exact hs
    | succeeded _ hu => exact hu.elim fun _ f => f.memoryOk hs
    | errored _ _ hu =>
      obtain ⟨_, _, _, dbuf⟩ := errored_same hu
      exact (congrArg MemoryOk dbuf).mpr hs
  · rcases keeps.memory with e | ⟨j, b, hj, e⟩
    · exact e ▸ hs
    · exact e ▸ memoryOk_memWrite b hs hj

/-! ### ERR -/

theorem access_err_le {s t : State} (hs : s.err.toNat ≤ 3) {a : HostAction}
    (h : access a s = .next t) : t.err.toNat ≤ 3 := by
  rcases access_cases h with ⟨_, rfl⟩ | ⟨w, _, hw⟩ | ⟨_, _, keeps⟩
  · exact Nat.zero_le 3
  · cases command_ends hw with
    | ignored _ => exact hs
    | faulted _ _ => exact hs
    | succeeded _ _ => exact Nat.zero_le 3
    | errored _ k _ => exact errorNumber_le k
  · exact keeps.err ▸ hs

/-! ### The set of all points, and O41 -/

/-- The affine points over Fp with canonical coordinates. -/
abbrev canonical1 : Aff MontWord → Prop := Aff.All (Fp.Canonical Config.params)

/-- The affine points over Fp2 with canonical coordinates. -/
abbrev canonical2 : Aff Fp2 → Prop := Aff.All (Fp2.Canonical Config.params)

theorem canonical1_pointSet :
    PointSet g1Group (g1Gen Config.params) (Fp.Canonical Config.params) canonical1 :=
  have := p_fact
  have gen := Config.params_valid.g1Gen_point
  coordinates_pointSet fp_model ⟨gen.x_canonical, gen.y_canonical⟩

theorem canonical2_pointSet :
    PointSet g2Group (g2Gen Config.params) (Fp2.Canonical Config.params) canonical2 :=
  have := p_fact
  have := fp2_fact
  have gen := Config.params_valid.g2Gen_point
  coordinates_pointSet fp2_model ⟨gen.x_canonical, gen.y_canonical⟩

/-- The registers of `Inv`, with a set of points in each of the point files. -/
theorem registersOk_of_inv {on1 : Aff MontWord → Prop} {on2 : Aff Fp2 → Prop} {s : State} (h : Inv s)
    (h1 : ∀ f j, readReg s.g1 f = some j → on1 (affineOf (fpOps Config.params) j))
    (h2 : ∀ f j, readReg s.g2 f = some j → on2 (affineOf (fp2Ops Config.params) j)) :
    RegistersOk on1 on2 s
  | (.fp, f) => h.fp_canonical f
  | (.fp2, f) => h.fp2_canonical f
  | (.fp6, f) => h.fp6_canonical f
  | (.fp12, f) => h.fp12_canonical f
  | (.g1, f) => fun j hj => ⟨h.g1_canonical f j hj, h1 f j hj⟩
  | (.g2, f) => fun j hj => ⟨h.g2_canonical f j hj, h2 f j hj⟩
  | (.k, _) => trivial

/-- An affine image has canonical coordinates. -/
theorem affineOf_canonical1 (j : Jac MontWord) : canonical1 (affineOf (fpOps Config.params) j) :=
  have := p_fact
  affineOf_good fp_model j

theorem affineOf_canonical2 (j : Jac Fp2) : canonical2 (affineOf (fp2Ops Config.params) j) :=
  have := p_fact
  have := fp2_fact
  affineOf_good fp2_model j

theorem inv_iff {s : State} : Inv s ↔ RegistersOk canonical1 canonical2 s ∧ MemoryOk s.dbuf ∧
    s.fault.toNat ≤ 6 ∧ s.err.toNat ≤ 3 := by
  constructor
  · intro h
    exact ⟨registersOk_of_inv h (fun _ j _ => affineOf_canonical1 j) (fun _ j _ => affineOf_canonical2 j),
      ⟨h.memory_wf, h.memory_inside⟩, h.fault_code, h.err_code⟩
  · rintro ⟨registers, ⟨wf, inside⟩, fault, err⟩
    exact ⟨wf, inside, fun f => registers (.fp, f), fun f => registers (.fp2, f),
      fun f => registers (.fp6, f), fun f => registers (.fp12, f),
      fun f j hj => (registers (.g1, f) j hj).1, fun f j hj => (registers (.g2, f) j hj).1, fault, err⟩

/-- Settles O41: the registers command by command, DBUF because an `Append` ends inside it. -/
theorem stepKeepsCanonicalState : Obligations.StepKeepsCanonicalState := by
  intro s t hs h
  obtain ⟨registers, memory, fault, err⟩ := inv_iff.mp hs
  exact inv_iff.mpr ⟨step_registersOk ⟨canonical1_pointSet, canonical2_pointSet⟩ registers h,
    step_keeps (P := fun s => MemoryOk s.dbuf) (fun h => h) access_memoryOk memory h,
    step_fault_le fault h,
    step_keeps (P := fun s => s.err.toNat ≤ 3) (fun h => h) access_err_le err h⟩

/-! ### The points of the curve of G1, and O43 -/

section Curves

variable [Fact Config.params.p.Prime]

/-- The points of y² = x³ + 3 with canonical coordinates. -/
abbrev curve1 : Aff MontWord → Prop :=
  RepresentedIn (Fp.Canonical Config.params) Fp.residue
    (⊤ : AddSubgroup (shortCurve (Fp.residue (b1 Config.params))).Point)

theorem curve1_iff {P : Aff MontWord} :
    curve1 P ↔ canonical1 P ∧ onCurve1 Config.params P = true := by
  constructor
  · rintro ⟨A, _, hA⟩
    refine ⟨hA.coordinates, ?_⟩
    cases P with
    | inf => rfl
    | pt x y => exact hA.onCurveEq fp_model
  · rintro ⟨good, on⟩
    obtain ⟨A, hA⟩ := exists_represents1 good on
    exact ⟨A, trivial, hA⟩

theorem curve1_pointSet :
    PointSet g1Group (g1Gen Config.params) (Fp.Canonical Config.params) curve1 := by
  obtain ⟨gx, gy, on⟩ := Config.params_valid.g1Gen_point
  exact represented_pointSet fp_model (curve1_iff.mpr ⟨⟨gx, gy⟩, on⟩)
    fun hx hy h => curve1_iff.mpr ⟨⟨hx, hy⟩, h⟩

/-! ### The points of the twist and of G2, O44 and O45 -/

variable [Fact (∀ r : PField, r ^ 2 ≠ -1 + 0 * r)]

/-- The points of the twist with canonical coordinates. -/
abbrev twist : Aff Fp2 → Prop :=
  RepresentedIn (Fp2.Canonical Config.params) Fp2.residue
    (⊤ : AddSubgroup (shortCurve (Fp2.residue Config.params.b2)).Point)

theorem twist_iff {P : Aff Fp2} : twist P ↔ canonical2 P ∧ onTwist P = true := by
  constructor
  · rintro ⟨A, _, hA⟩
    refine ⟨hA.coordinates, ?_⟩
    cases P with
    | inf => rfl
    | pt x y => exact hA.onCurveEq fp2_model
  · rintro ⟨good, on⟩
    obtain ⟨A, hA⟩ := exists_represents2 good on
    exact ⟨A, trivial, hA⟩

theorem twist_pointSet :
    PointSet g2Group (g2Gen Config.params) (Fp2.Canonical Config.params) twist := by
  obtain ⟨gx, gy, on⟩ := Config.params_valid.g2Gen_point
  exact represented_pointSet fp2_model (twist_iff.mpr ⟨⟨gx, gy⟩, ((onCurve2_iff _).mp on).1⟩)
    fun {x y} hx hy h => twist_iff.mpr ⟨⟨hx, hy⟩, ((onCurve2_iff (.pt x y)).mp h).1⟩

/-- The points of the twist that n kills, with canonical coordinates. -/
abbrev subgroup2 : Aff Fp2 → Prop :=
  RepresentedIn (Fp2.Canonical Config.params) Fp2.residue
    (nsmulAddMonoidHom (α := (shortCurve (Fp2.residue Config.params.b2)).Point)
      Config.params.n).ker

theorem subgroup2_iff {P : Aff Fp2} :
    subgroup2 P ↔ canonical2 P ∧ onCurve2 Config.params P = true := by
  rw [onCurve2_iff]
  constructor
  · rintro ⟨A, hn, hA⟩
    obtain ⟨good, on⟩ := twist_iff.mp ⟨A, trivial, hA⟩
    exact ⟨good, on, (hA.smul fp2_model _).unique fp2_model .inf (AddMonoidHom.mem_ker.mp hn)⟩
  · rintro ⟨good, on, hn⟩
    obtain ⟨A, hA⟩ := exists_represents2 good on
    have multiple := hA.smul fp2_model Config.params.n
    rw [hn] at multiple
    exact ⟨A, AddMonoidHom.mem_ker.mpr multiple.eq_zero, hA⟩

theorem subgroup2_pointSet :
    PointSet g2Group (g2Gen Config.params) (Fp2.Canonical Config.params) subgroup2 := by
  obtain ⟨gx, gy, on⟩ := Config.params_valid.g2Gen_point
  exact represented_pointSet fp2_model (subgroup2_iff.mpr ⟨⟨gx, gy⟩, on⟩)
    fun hx hy h => subgroup2_iff.mpr ⟨⟨hx, hy⟩, h⟩

end Curves

/-- Settles O43: the points of the curve are a group that the G1 commands stay in. -/
theorem stepKeepsG1OnCurve : Obligations.StepKeepsG1OnCurve := by
  have := p_fact
  intro s t inv hs h f j hj
  have registers : RegistersOk curve1 canonical2 s := registersOk_of_inv inv
    (fun f j hj => curve1_iff.mpr ⟨affineOf_canonical1 j, hs f j hj⟩)
    (fun _ j _ => affineOf_canonical2 j)
  have kept := step_registersOk ⟨curve1_pointSet, canonical2_pointSet⟩ registers h (.g1, f) j hj
  exact (curve1_iff.mp kept.2).2

/-- Settles O44: the points of the twist are a group that the G2 commands stay in. -/
theorem stepKeepsG2OnTwist : Obligations.StepKeepsG2OnTwist := by
  have := p_fact
  have := fp2_fact
  intro s t inv hs h f j hj
  have registers : RegistersOk canonical1 twist s := registersOk_of_inv inv
    (fun _ j _ => affineOf_canonical1 j)
    (fun f j hj => twist_iff.mpr ⟨affineOf_canonical2 j, hs f j hj⟩)
  have kept := step_registersOk ⟨canonical1_pointSet, twist_pointSet⟩ registers h (.g2, f) j hj
  exact (twist_iff.mp kept.2).2

/-- Settles O45: the points of the twist that n kills are a subgroup, and it holds the generator and
what UNMARSHAL accepts. -/
theorem stepKeepsG2InSubgroup : Obligations.StepKeepsG2InSubgroup := by
  have := p_fact
  have := fp2_fact
  intro s t inv hs h f j hj
  have registers : RegistersOk canonical1 subgroup2 s := registersOk_of_inv inv
    (fun _ j _ => affineOf_canonical1 j)
    (fun f j hj => subgroup2_iff.mpr ⟨affineOf_canonical2 j, hs f j hj⟩)
  have kept := step_registersOk ⟨canonical1_pointSet, subgroup2_pointSet⟩ registers h (.g2, f) j hj
  exact (subgroup2_iff.mp kept.2).2

/-- Settles O42: no register is valid after reset, and DBUF lists no byte. -/
theorem resetMeetsEveryInvariant : Obligations.ResetMeetsEveryInvariant := by
  refine ⟨fun s => rfl, inv_iff.mpr ⟨registersOk_resetEngine State.reset, ?_, ?_, ?_⟩,
    fun _ _ h => absurd h readReg_afterReset_ne, fun _ _ h => absurd h readReg_afterReset_ne,
    fun _ _ h => absurd h readReg_afterReset_ne⟩
  · exact ⟨reset_memory_wf, fun _ hc => nomatch hc⟩
  · exact Nat.zero_le 6
  · exact Nat.zero_le 3

end Sys2Proof.Proofs
end

section
/-!
The bytes of the window (R82): what the checks of an encoder and of a decoder answer, in their order, and
what an encoder appends and a decoder takes once they pass.
-/

namespace Sys2Proof.Proofs

open Sys2Proof Sys2Proof.Machine Sys2Proof.Laws

/-! ### A command that is ready -/

section Legal

variable {i : Instr} {s : State} {e e' : Ending}

/-- A command that is ready ends as its effect does (R470). -/
theorem exec_eq_finish (ready : Ready i s) (shape : exec i s = runCommand i s e) (he : e = e') :
    exec i s = finish (encode i) s e' := by
  rw [shape, runCommand_legal i s e ready.running ready.legal, he]

/-- A command with one register field is legal when that field is in its file. -/
theorem ready_of_index {f : Field6} (run : halted s = false) (hf : f.toNat < 16)
    (legal : i.wellFormed = (inFile 16 f && true)) : Ready i s :=
  ⟨run, by rw [legal, inFile_iff.mpr hf, Bool.and_true]⟩

end Legal

/-! ### The checks -/

section Checks

variable {len : Nat} {s : State}

theorem withRoom_full {effect : Ending} (full : Config.bufBytes < windowEnd s + len) :
    withRoom len s effect = .fault .bufferBounds := by
  rcases withRoom_cases len s effect with ⟨_, e⟩ | ⟨fits, _⟩
  · exact e
  · omega

theorem withRoom_fits {effect : Ending} (fits : windowEnd s + len ≤ Config.bufBytes) :
    withRoom len s effect = effect := by
  rcases withRoom_cases len s effect with ⟨full, _⟩ | ⟨_, e⟩
  · omega
  · exact e

variable {effect : List Byte → Ending}

theorem withWindow_outside (outside : Config.bufBytes < windowEnd s) :
    withWindow len s effect = .fault .bufferBounds :=
  if_pos outside

theorem withWindow_short (room : windowEnd s ≤ Config.bufBytes) (short : s.blen.toNat < len) :
    withWindow len s effect = .error .insufficientData s := by
  rw [withWindow, if_neg room.not_gt, if_pos short]

theorem withWindow_read (room : windowEnd s ≤ Config.bufBytes) (inside : len ≤ s.blen.toNat) :
    withWindow len s effect =
      (memReadRange s.dbuf s.bptr.toNat len).elim (.fault .uninitOperand) effect := by
  rw [withWindow, if_neg room.not_gt, if_neg inside.not_gt]
  cases memReadRange s.dbuf s.bptr.toNat len <;> rfl

end Checks

/-- One byte without a value and the whole range has none (R20, R42). -/
theorem memReadRange_eq_none {m : List Host.Cell} {j : Nat} (unwritten : memRead m j = none) :
    ∀ {n a : Nat}, a ≤ j → j < a + n → memReadRange m a n = none := by
  intro n
  induction n with
  | zero => intro a lower upper; omega
  | succ n ih =>
    intro a lower upper
    rw [memReadRange]
    rcases lower.eq_or_lt with rfl | above
    · rw [unwritten]
    · rw [ih above (by omega)]
      cases memRead m a <;> rfl

/-! ### Encoders -/

section Encoders

variable {i : Instr} {s : State}

/-- Where `len` more bytes fit, command `i` succeeds and is one `Append` of `bytes` (R21): they stand after
the window's end, the window is longer, and no other byte and no other field but ERR changes. -/
def Appends (i : Instr) (s : State) (len : Nat) (bytes : List Byte) : Prop :=
  windowEnd s + len ≤ Config.bufBytes → ∃ t, exec i s = .next t ∧
    t = { s with err := 0, blen := t.blen, dbuf := t.dbuf } ∧
    t.blen.toNat = s.blen.toNat + len ∧
    memReadRange t.dbuf (windowEnd s) len = some bytes ∧
    ∀ j, (j < windowEnd s ∨ windowEnd s + len ≤ j) → memRead t.dbuf j = memRead s.dbuf j

theorem appends_of_withRoom {len : Nat} {bytes : List Byte} (ready : Ready i s)
    (shape : exec i s = runCommand i s (withRoom len s (.success (append bytes s))))
    (hlen : bytes.length = len) : Appends i s len bytes := by
  subst hlen
  intro fits
  exact ⟨succeed (append bytes s), exec_eq_finish ready shape (withRoom_fits fits), rfl,
    append_window fits⟩

theorem encodeReg_of_read {α : Type} {src : RegFile α} {len : Nat} {bytes : α → List Byte}
    {ra : Field6} {a : α} (ha : src.read s ra = some a) :
    encodeReg src len bytes ra s = withRoom len s (.success (append (bytes a) s)) := by
  rw [encodeReg, ha]

theorem appends_of_encodeReg {α : Type} (src : RegFile α) {len : Nat} (bytes : α → List Byte)
    {ra : Field6} {a : α} (ready : Ready i s)
    (shape : exec i s = runCommand i s (encodeReg src len bytes ra s))
    (hlen : (bytes a).length = len) (ha : src.read s ra = some a) : Appends i s len (bytes a) :=
  appends_of_withRoom ready (encodeReg_of_read ha ▸ shape) hlen

/-- K.ST looks at the room before the range of the scalar (R379, R470). -/
theorem storeScalar_of_read {ka : Field6} {k : Nat} (hk : readReg s.k ka = some k) :
    ∃ effect, storeScalar ka s = withRoom 32 s effect ∧
      (k < 2 ^ 256 → effect = .success (append (bytesBE k 32) s)) := by
  have hread : kFile.read s ka = some k := hk
  rw [storeScalar, hread]
  exact ⟨_, rfl, fun small => if_neg small.not_ge⟩

/-- An encoder whose source is valid runs the checks of R82 on the bytes it appends. -/
theorem exec_encoder_shape (positive : 0 < instrAppended i)
    (valid : ∀ r ∈ instrSources i, registerValid s r = true) :
    ∃ effect, exec i s = runCommand i s (withRoom (instrAppended i) s effect) := by
  cases i with
  | fpEnc ra | fp2Enc ra | fp12Enc ra | g1Marshal ra | g2Marshal ra =>
    obtain ⟨a, ha⟩ := Option.isSome_iff_exists.mp (valid _ (.head _))
    exact ⟨_, congrArg (runCommand _ s) (encodeReg_of_read ha)⟩
  | kSt ka =>
    obtain ⟨k, hk⟩ := Option.isSome_iff_exists.mp (valid _ (.head _))
    obtain ⟨effect, he, _⟩ := storeScalar_of_read hk
    exact ⟨effect, congrArg (runCommand _ s) he⟩
  | _ => exact absurd positive (Nat.lt_irrefl 0)

end Encoders

/-- Settles O24: each of the four is `Append` of the value's bytes behind the room check. -/
theorem encoderResults : Obligations.EncoderResults := by
  intro ra s run hra
  refine ⟨fun a ha => ?_, fun a ha => ?_, fun a ha => ?_, fun k hk small => ?_⟩
  · exact appends_of_encodeReg fpFile (Fp.toBytes _) (ready_of_index run hra rfl) rfl
      (toBytes_length a) ha
  · exact appends_of_encodeReg fp2File (Fp2.toBytes _) (ready_of_index run hra rfl) rfl
      (fp2_toBytes_length a) ha
  · exact appends_of_encodeReg fp12File (Fp12.toBytes _) (ready_of_index run hra rfl) rfl
      (fp12_toBytes_length a) ha
  · obtain ⟨effect, he, hsmall⟩ := storeScalar_of_read hk
    have shape : exec (.kSt ra) s = runCommand (.kSt ra) s (storeScalar ra s) := rfl
    rw [he, hsmall small] at shape
    exact appends_of_withRoom (ready_of_index run hra rfl) shape (bytesBE_length k 32)

/-! ### The two MARSHAL commands -/

section Marshal

variable {ra : Field6} {s : State}

theorem g1Marshal_appends {j : Jac MontWord} {p : Aff MontWord} (ready : Ready (.g1Marshal ra) s)
    (hj : readReg s.g1 ra = some j) (hp : affineOf (fpOps Config.params) j = p) :
    Appends (.g1Marshal ra) s 64 (g1Bytes Config.params p) :=
  hp ▸ appends_of_encodeReg g1File (fun j => g1Bytes _ (affineOf g1Group.ops j)) ready rfl
    (g1Bytes_length _) hj

theorem g2Marshal_appends {j : Jac Fp2} {p : Aff Fp2} (ready : Ready (.g2Marshal ra) s)
    (hj : readReg s.g2 ra = some j) (hp : affineOf (fp2Ops Config.params) j = p) :
    Appends (.g2Marshal ra) s 128 (g2Bytes Config.params p) :=
  hp ▸ appends_of_encodeReg g2File (fun j => g2Bytes _ (affineOf g2Group.ops j)) ready rfl
    (g2Bytes_length _) hj

end Marshal

/-- Settles O25: the bytes are those of the affine image, which is INF where Z = 0 (R25). -/
theorem marshalResults : Obligations.MarshalResults := by
  intro ra s run hra
  refine ⟨fun j hj => ⟨fun hz => ?_, fun x y hp => ?_⟩,
    fun j hj => ⟨fun hz => ?_, fun x y hp => ?_⟩⟩
  · exact g1Marshal_appends (ready_of_index run hra rfl) hj (if_pos hz)
  · exact g1Marshal_appends (ready_of_index run hra rfl) hj hp
  · exact g2Marshal_appends (ready_of_index run hra rfl) hj (if_pos hz)
  · have appends := g2Marshal_appends (ready_of_index run hra rfl) hj hp
    rw [g2Bytes, Fp2.toBytes, Fp2.toBytes, ← List.append_assoc] at appends
    exact appends

/-! ### Decoders -/

section Decoders

variable {i : Instr} {s : State} {len : Nat}

/-- A success that consumes `len` bytes of the window, with the new pointers as sums (R21, R49). -/
theorem succeed_consume (inside : len ≤ s.blen.toNat) : succeed (consume len s) =
    { s with err := 0, bptr := BitVec.ofNat 32 (s.bptr.toNat + len),
             blen := BitVec.ofNat 32 (s.blen.toNat - len) } := by
  have hp : s.bptr + BitVec.ofNat 32 len = BitVec.ofNat 32 (s.bptr.toNat + len) := by
    rw [BitVec.ofNat_add, BitVec.ofNat_toNat, BitVec.setWidth_eq]
  have hl : s.blen - BitVec.ofNat 32 len = BitVec.ofNat 32 (s.blen.toNat - len) := by
    bv_omega
  rw [consume, hp, hl, succeed]

/-- A decoder whose window checks pass writes the value of the window's first bytes and consumes them. -/
theorem exec_decodeReg {α : Type} (dst : RegFile α) (value : List Byte → α) {rd : Field6}
    {bytes : List Byte} (keeps : KeepsWindow dst) (ready : Ready i s)
    (shape : exec i s = runCommand i s (decodeReg dst len value rd s))
    (room : windowEnd s ≤ Config.bufBytes) (inside : len ≤ s.blen.toNat)
    (read : memReadRange s.dbuf s.bptr.toNat len = some bytes) :
    exec i s = .next { dst.write s rd (value bytes) with
      err := 0, bptr := BitVec.ofNat 32 (s.bptr.toNat + len),
      blen := BitVec.ofNat 32 (s.blen.toNat - len) } := by
  have same := keeps s rd (value bytes)
  have ending : decodeReg dst len value rd s =
      .success (consume len (dst.write s rd (value bytes))) := by
    rw [decodeReg, withWindow_read room inside, read, Option.elim]
  rw [exec_eq_finish ready shape ending, finish, succeed_consume (same.blen ▸ inside), same.bptr,
    same.blen]

/-- A decoder of a fixed length runs the checks of R82 on the bytes it needs. -/
theorem exec_decoder_shape (positive : 0 < instrNeeded i) :
    ∃ effect, exec i s = runCommand i s (withWindow (instrNeeded i) s effect) := by
  cases i with
  | fpDec | fp2Dec | fp12Dec | g1Unmarshal | g2Unmarshal => exact ⟨_, rfl⟩
  | _ => exact absurd positive (Nat.lt_irrefl 0)

variable {effect : List Byte → Ending} (ready : Ready i s)
  (shape : exec i s = runCommand i s (withWindow len s effect))
include ready shape

theorem exec_outside (outside : Config.bufBytes < windowEnd s) :
    exec i s = .next { s with fault := 5, finfo := encode i } :=
  exec_eq_finish ready shape (withWindow_outside outside)

theorem exec_short (room : windowEnd s ≤ Config.bufBytes) (short : s.blen.toNat < len) :
    exec i s = .next { s with err := 1 } :=
  exec_eq_finish ready shape (withWindow_short room short)

theorem exec_unwritten (room : windowEnd s ≤ Config.bufBytes) (inside : len ≤ s.blen.toNat)
    (unwritten : ∃ j, s.bptr.toNat ≤ j ∧ j < s.bptr.toNat + len ∧ memRead s.dbuf j = none) :
    exec i s = .next { s with fault := 2, finfo := encode i } := by
  obtain ⟨j, lower, upper, hj⟩ := unwritten
  refine exec_eq_finish ready shape (e' := .fault .uninitOperand) ?_
  rw [withWindow_read room inside, memReadRange_eq_none hj lower upper]
  rfl

end Decoders

/-- Settles O26: each of the four is `decodeReg`, K.LD with the whole window as its length. -/
theorem decoderResults : Obligations.DecoderResults := by
  intro rd s len bytes run hrd room inside read
  refine ⟨?_, ?_, ?_, ?_⟩
  · rintro rfl
    exact exec_decodeReg fpFile (fun b => Fp.ofLimb _ b 0) (fun _ _ _ => ⟨rfl, rfl, rfl⟩)
      (ready_of_index run hrd rfl) rfl room inside read
  · rintro rfl
    exact exec_decodeReg fp2File (fun b => Fp2.ofLimbs _ b 0) (fun _ _ _ => ⟨rfl, rfl, rfl⟩)
      (ready_of_index run hrd rfl) rfl room inside read
  · rintro rfl
    exact exec_decodeReg fp12File (Fp12.ofBytes _) (fun _ _ _ => ⟨rfl, rfl, rfl⟩)
      (ready_of_index run hrd rfl) rfl room inside read
  · rintro rfl
    exact exec_decodeReg kFile beNat kFile_keeps (ready_of_index run hrd rfl) rfl room inside read

/-- Settles O37: an encoder asks for its room once its source is valid; a decoder looks at the window's
position, then its length, then its bytes, and K.LD's length is the window's. -/
theorem windowChecks : Obligations.WindowChecks := by
  refine ⟨fun i s ready positive valid full => ?_, fun i s ready positive => ?_, fun kd s ready => ?_⟩
  · obtain ⟨effect, shape⟩ := exec_encoder_shape positive valid
    exact exec_eq_finish ready shape (withRoom_full full)
  · obtain ⟨effect, shape⟩ := exec_decoder_shape (s := s) positive
    exact ⟨exec_outside ready shape, exec_short ready shape, exec_unwritten ready shape⟩
  · exact ⟨exec_outside ready rfl, fun room => exec_unwritten ready rfl room le_rfl⟩

end Sys2Proof.Proofs
end

section
/-!
The statements about the command word (30_encoding): the two round trips, the reserved opcodes (R137 (a)),
and what a word that encodes no legal command does.
-/

namespace Sys2Proof.Proofs

open Sys2Proof Sys2Proof.Machine Sys2Proof.Laws

/-! ### The two round trips -/

/-- All 32 bits of a command word reach the decoder (R120). -/
theorem decodeTableWord_toNat (w : Word32) :
    decodeTableWord 32 w.toNat = (decode w).toOption := by
  have hw : BitVec.ofNat 32 (w.toNat % 2 ^ 32) = w := by
    rw [Nat.mod_eq_of_lt w.isLt, BitVec.ofNat_toNat, BitVec.setWidth_eq]
  rw [decodeTableWord, hw]
  cases decode w <;> rfl

/-- Settles O1: the fields of the encoded word are the command's, and its opcode selects its row. -/
theorem decodeOfEncode : Obligations.DecodeOfEncode := by
  intro i legal
  have hd := decode_encode legal
  exact ⟨hd, by rw [decodeTableWord_toNat, hd]; rfl⟩

/-- Settles O2: a row reads each field of the word as an operand or asks it to be zero, and the encoder
puts it back. -/
theorem encodeOfDecode : Obligations.EncodeOfDecode :=
  fun _ _ h => ⟨(decode_ok.mp h).2, encode_of_decode h⟩

/-- Settles O3: the decoder is run on each word. -/
theorem handWrittenWords : Obligations.HandWrittenWords := by
  unfold Obligations.HandWrittenWords
  decide

/-! ### Reserved opcodes -/

/-- The opcodes that are not in the opcode map (R137 (a)). -/
def ReservedOpcode (op : Nat) : Prop :=
  op ≤ 0x0F ∨ op = 0x1E ∨ op = 0x1F ∨ op = 0x2F ∨ op = 0x4E ∨ op = 0x4F ∨
    (0x56 ≤ op ∧ op ≤ 0x5F) ∨ (0x6C ≤ op ∧ op ≤ 0x6F) ∨ (0x7C ≤ op ∧ op ≤ 0x7F) ∨
    (0x84 ≤ op ∧ op ≤ 0x8F) ∨ (0x96 ≤ op ∧ op ≤ 0x9F) ∨ 0xA4 ≤ op

/-- `op` is the top byte of the word (R121). -/
theorem opField_toNat (w : Word32) : (opField w).toNat = (w >>> 24).toNat := by
  have := w.isLt
  simp only [opField, BitVec.extractLsb'_toNat, BitVec.toNat_ushiftRight, Nat.shiftRight_eq_div_pow]
  omega

theorem unusedZero_ne_reservedOp (ok : Bool) (i : Instr) :
    unusedZero ok i ≠ .error .reservedOp := by
  cases ok <;> simp [unusedZero]

/-- The opcode map has a row for each opcode that R137 (a) leaves out, and no format refuses a word for
its opcode. -/
theorem decodeRow_reservedOp {w : Word32} :
    decodeRow w = .error .reservedOp ↔ ReservedOpcode (opField w).toNat := by
  unfold decodeRow ReservedOpcode
  split
  case h_104 => grind
  all_goals
    rename_i hop
    simp only [formD, formS, formDS, formSS, formDSS, formDSSS, formDI, unusedZero_ne_reservedOp,
      reduceCtorEq, false_iff, hop]
    decide

theorem checkLegal_ne_reservedOp (i : Instr) : checkLegal i ≠ .error .reservedOp := by
  unfold checkLegal
  cases i.indicesLegal <;> cases i.selLegal <;> simp

/-- The later checks of R470 step 2 refuse a word for other reasons. -/
theorem decode_reservedOp {w : Word32} :
    decode w = .error .reservedOp ↔ ReservedOpcode (opField w).toNat := by
  rw [← decodeRow_reservedOp, decode]
  cases decodeRow w with
  | error e => rfl
  | ok i => simp [checkLegal_ne_reservedOp]

/-! ### Words that encode no legal command -/

theorem decode_eq_error {w : Word32} (unencoded : ∀ i : Instr, i.wellFormed = true → encode i ≠ w) :
    ∃ e, decode w = .error e := by
  cases hd : decode w with
  | error e => exact ⟨e, rfl⟩
  | ok i => exact absurd (encode_of_decode hd) (unencoded i (decode_ok.mp hd).2)

theorem command_undecoded {s : State} {w : Word32} {e : DecodeError} (run : halted s = false)
    (h : decode w = .error e) : command w s = .next (takeFault .illegalCommand w s) := by
  simp [command, run, h]

/-- Settles O4: only an opcode outside the map is refused as reserved, and a word that decoded would be
the encoding of its legal command. -/
theorem illegalWords : Obligations.IllegalWords := by
  refine ⟨fun w => ?_, fun w s run unencoded => ?_⟩
  · rw [decode_reservedOp, opField_toNat]
    exact Iff.rfl
  · obtain ⟨e, hd⟩ := decode_eq_error unencoded
    exact command_undecoded run hd

end Sys2Proof.Proofs
end

section
/-!
What a legal command answers once its sources are valid, one rule for each shape of Machine/Shapes.lean,
and the result statements that need no arithmetic: constants, predicates, copies, PACK and GET, and the
operands that fault.
-/

namespace Sys2Proof.Proofs

open Sys2Proof Sys2Proof.Machine Sys2Proof.Laws

/-! ### Legal register operands -/

section Legal

variable {i : Instr} {s : State} {f g h k : Field6}

/-- A command with two register fields is legal when both are in their files. -/
theorem ready_of_two (run : halted s = false) (hf : f.toNat < 16) (hg : g.toNat < 16)
    (legal : i.wellFormed = (inFile 16 f && inFile 16 g && true)) : Ready i s :=
  ⟨run, by rw [legal, inFile_iff.mpr hf, inFile_iff.mpr hg]; rfl⟩

theorem ready_of_three (run : halted s = false) (hf : f.toNat < 16) (hg : g.toNat < 16)
    (hh : h.toNat < 16)
    (legal : i.wellFormed = (inFile 16 f && inFile 16 g && inFile 16 h && true)) : Ready i s :=
  ⟨run, by rw [legal, inFile_iff.mpr hf, inFile_iff.mpr hg, inFile_iff.mpr hh]; rfl⟩

theorem ready_of_four (run : halted s = false) (hf : f.toNat < 16) (hg : g.toNat < 16)
    (hh : h.toNat < 16) (hk : k.toNat < 16)
    (legal : i.wellFormed = (inFile 16 f && inFile 16 g && inFile 16 h && inFile 16 k && true)) :
    Ready i s :=
  ⟨run, by rw [legal, inFile_iff.mpr hf, inFile_iff.mpr hg, inFile_iff.mpr hh, inFile_iff.mpr hk]; rfl⟩

variable {e : Ending} {t u : State}

/-- A command that is ready and whose effect succeeds answers the state of the success with ERR cleared, here
in any equal form (R49). -/
theorem exec_success (ready : Ready i s) (shape : exec i s = runCommand i s e) (he : e = .success t)
    (hu : succeed t = u) : exec i s = .next u :=
  hu ▸ exec_eq_finish ready shape he

/-- A command that is ready and whose effect faults takes the fault (R463). -/
theorem exec_fault (c : FaultKind) (ready : Ready i s) (shape : exec i s = runCommand i s e)
    (he : e = .fault c) : exec i s = .next { s with fault := faultNumber c, finfo := encode i } :=
  exec_eq_finish ready shape he

end Legal

/-! ### The shapes on valid sources -/

section Shapes

variable {α β γ : Type} {s : State} {rd ra rb rc : Field6}

theorem unary_of_read {src : RegFile α} {dst : RegFile β} {op : α → β} {a : α}
    (ha : src.read s ra = some a) :
    unary src dst op rd ra s = .success (dst.write s rd (op a)) := by
  rw [unary, ha]

theorem unaryNonzero_of_read [DecidableEq α] {src : RegFile α} {dst : RegFile β} {zero a : α}
    {op : α → β} (ha : src.read s ra = some a) (nonzero : a ≠ zero) :
    unaryNonzero src dst zero op rd ra s = .success (dst.write s rd (op a)) := by
  rw [unaryNonzero, ha]
  exact if_neg nonzero

theorem unaryNonzero_of_zero [DecidableEq α] {src : RegFile α} {dst : RegFile β} {zero : α}
    {op : α → β} (ha : src.read s ra = some zero) :
    unaryNonzero src dst zero op rd ra s = .fault .invertZero := by
  rw [unaryNonzero, ha]
  exact if_pos rfl

theorem binary_of_read {srcA : RegFile α} {srcB : RegFile β} {dst : RegFile γ} {op : α → β → γ}
    {a : α} {b : β} (ha : srcA.read s ra = some a) (hb : srcB.read s rb = some b) :
    binary srcA srcB dst op rd ra rb s = .success (dst.write s rd (op a b)) := by
  rw [binary, ha, hb]

theorem ternary_of_read {src : RegFile α} {dst : RegFile β} {op : α → α → α → β} {a b c : α}
    (ha : src.read s ra = some a) (hb : src.read s rb = some b) (hc : src.read s rc = some c) :
    ternary src dst op rd ra rb rc s = .success (dst.write s rd (op a b c)) := by
  rw [ternary, ha, hb, hc]

/-- A predicate of one source, its answer in any equal form. -/
theorem test_of_read {src : RegFile α} {holds : α → Bool} {a : α} {r : Bool}
    (ha : src.read s ra = some a) (hr : holds a = r) :
    test src holds ra s = .success (setRes s r) := by
  rw [test, ha, ← hr]

theorem test2_of_read {src : RegFile α} {holds : α → α → Bool} {a b : α} {r : Bool}
    (ha : src.read s ra = some a) (hb : src.read s rb = some b) (hr : holds a b = r) :
    test2 src holds ra rb s = .success (setRes s r) := by
  rw [test2, ha, hb, ← hr]

end Shapes

/-! ### Constants -/

/-- Settles O18: every one of them is `constant` with the word or the tuple of words that its rule
names. -/
theorem constantResults : Obligations.ConstantResults := by
  intro rd imm s run hrd one z2 z6
  refine ⟨?_, ?_, ?_, ?_, ?_, ?_, ?_, ?_, ?_, ?_, ?_⟩
  all_goals exact exec_success (ready_of_index run hrd rfl) rfl rfl rfl

/-! ### Predicates -/

/-- Elements of Fp2 are equal when their components are (R213). -/
theorem fp2_beq (a b : Fp2) : (a == b) = decide (a.x = b.x ∧ a.y = b.y) := by
  obtain ⟨x, y⟩ := a
  obtain ⟨u, v⟩ := b
  exact decide_eq_decide.mpr (by rw [Fp2.mk.injEq])

theorem fp6_beq (a b : Fp6) : (a == b) = decide (a.x = b.x ∧ a.y = b.y ∧ a.z = b.z) := by
  obtain ⟨x, y, z⟩ := a
  obtain ⟨u, v, w⟩ := b
  exact decide_eq_decide.mpr (by rw [Fp6.mk.injEq])

theorem fp12_beq (a b : Fp12) : (a == b) = decide (a.x = b.x ∧ a.y = b.y) := by
  obtain ⟨x, y⟩ := a
  obtain ⟨u, v⟩ := b
  exact decide_eq_decide.mpr (by rw [Fp12.mk.injEq])

/-- Settles O19: each predicate compares its source with a constant or with the second source, component
by component. -/
theorem fieldTestResults : Obligations.FieldTestResults := by
  intro ra rb s run hra hrb one z2 z6 o6 put
  have single {i : Instr} := ready_of_index (i := i) run hra
  have pair {i : Instr} := ready_of_two (i := i) run hra hrb
  refine ⟨fun a b ha hb => ⟨?_, ?_, ?_⟩, fun a b ha hb => ⟨?_, ?_, ?_⟩,
    fun a b ha hb => ⟨?_, ?_, ?_⟩, fun a b ha hb => ⟨?_, ?_, ?_⟩⟩
  · exact exec_success (single rfl) rfl (test_of_read ha rfl) rfl
  · exact exec_success (single rfl) rfl (test_of_read ha rfl) rfl
  · exact exec_success (pair rfl) rfl (test2_of_read ha hb rfl) rfl
  · exact exec_success (single rfl) rfl (test_of_read ha (fp2_beq a _)) rfl
  · exact exec_success (single rfl) rfl (test_of_read ha (fp2_beq a _)) rfl
  · exact exec_success (pair rfl) rfl (test2_of_read ha hb (fp2_beq a b)) rfl
  · exact exec_success (single rfl) rfl (test_of_read ha (fp6_beq a _)) rfl
  · exact exec_success (single rfl) rfl (test_of_read ha (fp6_beq a _)) rfl
  · exact exec_success (pair rfl) rfl (test2_of_read ha hb (fp6_beq a b)) rfl
  · exact exec_success (single rfl) rfl (test_of_read ha (fp12_beq a _)) rfl
  · exact exec_success (single rfl) rfl (test_of_read ha (fp12_beq a _)) rfl
  · exact exec_success (pair rfl) rfl (test2_of_read ha hb (fp12_beq a b)) rfl

/-! ### Copies, PACK and GET -/

/-- Settles O20: a copy is `unary` with the identity, GET is `unary` with the component that the selector
names, and PACK builds the tuple from two sources or three. -/
theorem movePackGetResults : Obligations.MovePackGetResults := by
  constructor
  · intro rd ra s run hrd hra
    refine ⟨fun a ha => ?_, fun a ha => ?_, fun a ha => ?_, fun a ha => ?_, fun a ha => ?_,
      fun a ha => ?_, fun a ha => ?_⟩
    all_goals exact exec_success (ready_of_two run hrd hra rfl) rfl (unary_of_read ha) rfl
  · intro rd ra rb rc s run hrd hra hrb hrc
    have pack {i : Instr} := ready_of_three (i := i) run hrd hra hrb
    have get {i : Instr} := ready_of_two (i := i) run hrd hra
    refine ⟨fun x y hx hy => ?_, fun a ha => ⟨?_, ?_⟩, fun x y z hx hy hz => ?_,
      fun a ha => ⟨?_, ?_, ?_⟩, fun x y hx hy => ?_, fun a ha => ⟨?_, ?_⟩⟩
    · exact exec_success (pack rfl) rfl (binary_of_read hx hy) rfl
    · exact exec_success (get rfl) rfl (unary_of_read ha) rfl
    · exact exec_success (get rfl) rfl (unary_of_read ha) rfl
    · exact exec_success (ready_of_four run hrd hra hrb hrc rfl) rfl (ternary_of_read hx hy hz) rfl
    · exact exec_success (get rfl) rfl (unary_of_read ha) rfl
    · exact exec_success (get rfl) rfl (unary_of_read ha) rfl
    · exact exec_success (get rfl) rfl (unary_of_read ha) rfl
    · exact exec_success (pack rfl) rfl (binary_of_read hx hy) rfl
    · exact exec_success (get rfl) rfl (unary_of_read ha) rfl
    · exact exec_success (get rfl) rfl (unary_of_read ha) rfl

/-! ### Operands that fault -/

/-- K.ST of a scalar that needs more than 32 bytes, where there is room for 32 (R379). -/
theorem storeScalar_too_long {ka : Field6} {s : State} {k : Nat} (hk : readReg s.k ka = some k)
    (room : windowEnd s + 32 ≤ Config.bufBytes) (long : 2 ^ 256 ≤ k) :
    storeScalar ka s = .fault .scalarRange := by
  rw [storeScalar, kFile_read, hk]
  exact (withRoom_fits room).trans (if_pos long)

/-- PAIRCHK looks at the shape of its lists before any register of them (R408, R470 step 3). -/
theorem pairCheck_bad_lists {ra rb : Field6} {s : State}
    (bad : s.lena ≠ s.lenb ∨ Config.nG1 < ra.toNat + s.lena.toNat ∨
      Config.nG2 < rb.toNat + s.lenb.toNat) : pairCheck ra rb s = .fault .indexRange := by
  rcases pairCheck_cases ra rb s with ⟨_, e⟩ | ⟨equal, inside1, inside2, _⟩
  · exact e
  · rw [← equal] at bad
    rcases bad with unequal | outside1 | outside2
    · exact absurd rfl unequal
    · exact absurd inside1 outside1.not_ge
    · exact absurd inside2 outside2.not_ge

/-- Settles O36: the zero test of the inverting commands, the range of K.ST behind its room check, and the
shape of PAIRCHK's lists ahead of their registers. -/
theorem operandFaults : Obligations.OperandFaults := by
  refine ⟨fun rd ra s run hrd hra => ?_, fun ka s k ready hk room long => ?_,
    fun ra rb s ready bad => ?_⟩
  · intro faults
    have ready {i : Instr} := ready_of_two (i := i) run hrd hra
    exact ⟨fun ha => exec_fault .invertZero (ready rfl) rfl (unaryNonzero_of_zero ha),
      fun ha => exec_fault .invertZero (ready rfl) rfl (unaryNonzero_of_zero ha),
      fun ha => exec_fault .invertZero (ready rfl) rfl (unaryNonzero_of_zero ha),
      fun ha => ⟨exec_fault .invertZero (ready rfl) rfl (unaryNonzero_of_zero ha),
        exec_fault .invertZero (ready rfl) rfl (unaryNonzero_of_zero ha)⟩⟩
  · exact exec_fault .scalarRange ready rfl (storeScalar_too_long hk room long)
  · exact exec_fault .indexRange ready rfl (pairCheck_bad_lists bad)

end Sys2Proof.Proofs
end

section
/-!
Fp as a field: the laws of R181 hold of canonical words because they hold of Z/p and a canonical word is
known by its residue; the sums and differences of the pseudocode of R166 to R168 are reductions of integers
below 2p.
-/

namespace Sys2Proof.Proofs

open Sys2Proof Sys2Proof.Machine Sys2Proof.Laws

/-! ### Words and their residues -/

@[simp] theorem residue_zero : Fp.residue 0#256 = 0 := by simp [residue_eq]

@[simp] theorem residue_one : Fp.residue (Fp.one Config.params) = 1 := by
  rw [one_eq_enc, residue_enc, Nat.cast_one]

section Laws

variable {a b d : MontWord}

/-- An identity of canonical words follows from that of their residues. -/
theorem fp_eq_of_residue (ha : Fp.Canonical Config.params a) (hb : Fp.Canonical Config.params b)
    (h : Fp.residue a = Fp.residue b) : a = b :=
  (residue_inj ha hb).mp h

theorem residue_ne_zero (ha : Fp.Canonical Config.params a) (nonzero : a ≠ 0) :
    Fp.residue a ≠ 0 :=
  fun h => nonzero (fp_eq_of_residue ha zero_canonical (h.trans residue_zero.symm))

/-! ### The laws of R181 -/

theorem fp_add_comm (a b : MontWord) : Fp.add Config.params a b = Fp.add Config.params b a := by
  rw [Fp.add, Fp.add, Nat.add_comm]

theorem fp_mul_comm (a b : MontWord) : Fp.mul Config.params a b = Fp.mul Config.params b a := by
  rw [Fp.mul, Fp.mul, Nat.mul_comm a.toNat]

theorem fp_add_assoc (a b d : MontWord) : Fp.add Config.params (Fp.add Config.params a b) d =
    Fp.add Config.params a (Fp.add Config.params b d) :=
  fp_eq_of_residue (reduce_canonical _) (reduce_canonical _) (by simp [add_assoc])

theorem fp_mul_assoc (a b d : MontWord) : Fp.mul Config.params (Fp.mul Config.params a b) d =
    Fp.mul Config.params a (Fp.mul Config.params b d) :=
  fp_eq_of_residue (reduce_canonical _) (reduce_canonical _) (by simp [mul_assoc])

theorem fp_mul_add (a b d : MontWord) : Fp.mul Config.params a (Fp.add Config.params b d) =
    Fp.add Config.params (Fp.mul Config.params a b) (Fp.mul Config.params a d) :=
  fp_eq_of_residue (reduce_canonical _) (reduce_canonical _) (by simp [mul_add])

theorem fp_add_zero (ha : Fp.Canonical Config.params a) : Fp.add Config.params a 0 = a :=
  fp_eq_of_residue (reduce_canonical _) ha (by simp)

theorem fp_add_neg (a : MontWord) : Fp.add Config.params a (Fp.neg Config.params a) = 0 :=
  fp_eq_of_residue (reduce_canonical _) zero_canonical (by simp)

theorem fp_sub_eq_add_neg (a b : MontWord) : Fp.sub Config.params a b =
    Fp.add Config.params a (Fp.neg Config.params b) :=
  fp_eq_of_residue (reduce_canonical _) (reduce_canonical _) (by simp [sub_eq_add_neg])

theorem fp_neg_neg (ha : Fp.Canonical Config.params a) :
    Fp.neg Config.params (Fp.neg Config.params a) = a :=
  fp_eq_of_residue (reduce_canonical _) ha (by simp)

theorem fp_mul_inv (ha : Fp.Canonical Config.params a) (nonzero : a ≠ 0) :
    Fp.mul Config.params a (Fp.inv Config.params a) = Fp.one Config.params := by
  have := p_fact
  refine fp_eq_of_residue (reduce_canonical _) one_canonical ?_
  rw [residue_mul, residue_inv, residue_one, mul_inv_cancel₀ (residue_ne_zero ha nonzero)]

theorem fp_inv_inv (ha : Fp.Canonical Config.params a) :
    Fp.inv Config.params (Fp.inv Config.params a) = a := by
  have := p_fact
  exact fp_eq_of_residue (reduce_canonical _) ha (by simp)

end Laws

/-- Settles O47: each law is one of the field Z/p, read on the residues. -/
theorem fpFieldLaws : Obligations.FpFieldLaws := fun a b d ha _ _ =>
  ⟨fp_add_comm a b, fp_mul_comm a b, fp_add_assoc a b d, fp_mul_assoc a b d, fp_mul_add a b d,
    fp_add_zero ha, mul_one_of_canonical ha, fp_add_neg a, fp_sub_eq_add_neg a b, fp_mul_inv ha,
    rfl, fp_neg_neg ha, fun _ => fp_inv_inv ha⟩

/-! ### The words of the pseudocode -/

section Words

variable {a b : MontWord}

/-- An integer below 2p is reduced by at most one subtraction of p (R166). -/
theorem reduce_of_lt_two_mul {v : Nat} (h : v < 2 * Config.params.p) :
    Fp.reduce Config.params v =
      BitVec.ofNat 256 (if Config.params.p ≤ v then v - Config.params.p else v) := by
  rw [Fp.reduce, mod_eq_of_lt_two_mul h]

theorem fp_add_word (ha : Fp.Canonical Config.params a) (hb : Fp.Canonical Config.params b) :
    Fp.add Config.params a b = BitVec.ofNat 256
      (if Config.params.p ≤ a.toNat + b.toNat then a.toNat + b.toNat - Config.params.p
        else a.toNat + b.toNat) :=
  reduce_of_lt_two_mul (by omega)

/-- A − B, with p added where A is below B (R167). -/
theorem fp_sub_word (ha : Fp.Canonical Config.params a) (hb : Fp.Canonical Config.params b) :
    Fp.sub Config.params a b = BitVec.ofNat 256
      (if b.toNat ≤ a.toNat then a.toNat - b.toNat
        else a.toNat + Config.params.p - b.toNat) := by
  rw [Fp.sub, Nat.mod_eq_of_lt hb, reduce_of_lt_two_mul (by omega)]
  congr 1
  split <;> split <;> omega

theorem fp_neg_word (ha : Fp.Canonical Config.params a) :
    Fp.neg Config.params a =
      BitVec.ofNat 256 (if a.toNat = 0 then 0 else Config.params.p - a.toNat) := by
  have hp := p_pos
  rw [Fp.neg, Nat.mod_eq_of_lt ha, reduce_of_lt_two_mul (by omega)]
  congr 1
  split <;> split <;> omega

/-- INV(A)·A·RINV is R modulo p: the product of A and its inverse is ONE_M (R171). -/
theorem fp_inv_word (ha : Fp.Canonical Config.params a) (nonzero : a ≠ 0) :
    (Fp.inv Config.params a).toNat * a.toNat * Config.params.rInv % Config.params.p =
      2 ^ 256 % Config.params.p := by
  have h : Fp.mul Config.params (Fp.inv Config.params a) a = Fp.one Config.params :=
    (fp_mul_comm _ _).trans (fp_mul_inv ha nonzero)
  rwa [Fp.mul, Fp.one, reduce_eq_iff] at h

end Words

/-- Settles O17: ADD, SUB and NEG reduce an integer below 2p, MUL and SQR are their pseudocode, and INV
writes the inverse of Z/p. -/
theorem fpResults : Obligations.FpResults := by
  intro rd ra rb s a b run hrd hra hrb hreadA hreadB ha hb p put
  have two {i : Instr} := ready_of_two (i := i) run hrd hra
  have three {i : Instr} := ready_of_three (i := i) run hrd hra hrb
  have written {w : MontWord} {v : Nat} (hw : w = BitVec.ofNat 256 v) :
      succeed (fpFile.write s rd w) = put v := by rw [hw]; rfl
  refine ⟨?_, ?_, ?_, ?_, ?_, fun nonzero => ⟨(Fp.inv Config.params a).toNat, reduce_canonical _, ?_,
    fp_inv_word ha nonzero⟩⟩
  · exact exec_success (three rfl) rfl (binary_of_read hreadA hreadB) (written (fp_add_word ha hb))
  · exact exec_success (three rfl) rfl (binary_of_read hreadA hreadB) (written (fp_sub_word ha hb))
  · exact exec_success (two rfl) rfl (unary_of_read hreadA) (written (fp_neg_word ha))
  · exact exec_success (three rfl) rfl (binary_of_read hreadA hreadB) (written rfl)
  · exact exec_success (two rfl) rfl (unary_of_read hreadA) (written rfl)
  · exact exec_success (two rfl) rfl (unaryNonzero_of_read hreadA nonzero)
      (written (by rw [BitVec.ofNat_toNat, BitVec.setWidth_eq]))

end Sys2Proof.Proofs
end

section
/-!
The bytes of words (R16, R84 to R87): byte strings and integers determine each other, a limb is cut out of a
longer string, and the codecs of Fp, Fp2 and Fp12 are inverse both ways.
-/

namespace Sys2Proof.Proofs

open Sys2Proof Sys2Proof.Machine Sys2Proof.Laws

/-! ### Byte strings and integers -/

theorem beNat_cons (b : Byte) (s : List Byte) :
    beNat (b :: s) = beNat s + b.toNat * 256 ^ s.length := by
  rw [← List.singleton_append, beNat_append]
  simp [beNat, Nat.add_comm]

theorem beNat_lt (s : List Byte) : beNat s < 256 ^ s.length := by
  induction s with
  | nil => exact Nat.one_pos
  | cons b s ih =>
    have hb : b.toNat + 1 ≤ 256 := b.isLt
    calc beNat (b :: s) = beNat s + b.toNat * 256 ^ s.length := beNat_cons b s
      _ < 256 ^ s.length + b.toNat * 256 ^ s.length := Nat.add_lt_add_right ih _
      _ = (b.toNat + 1) * 256 ^ s.length := by ring
      _ ≤ 256 * 256 ^ s.length := Nat.mul_le_mul_right _ hb
      _ = 256 ^ (s.length + 1) := by ring

/-- The last bytes of an integer do not see its higher part. -/
theorem bytesBE_add_mul (v k m : Nat) :
    ∀ {l : Nat}, l ≤ m → bytesBE (v + k * 256 ^ m) l = bytesBE v l := by
  intro l
  induction l with
  | zero => exact fun _ => rfl
  | succ l ih =>
    intro hl
    obtain ⟨d, rfl⟩ := Nat.exists_eq_add_of_le hl
    have hquot : (v + k * 256 ^ (l + 1 + d)) / 256 ^ l = v / 256 ^ l + 2 ^ 8 * (k * 256 ^ d) := by
      rw [show k * 256 ^ (l + 1 + d) = 2 ^ 8 * (k * 256 ^ d) * 256 ^ l by ring]
      exact Nat.add_mul_div_right _ _ (by positivity)
    rw [bytesBE, bytesBE, ih (by omega), hquot]
    congr 1
    exact BitVec.eq_of_toNat_eq (by simp)

/-- A byte string is the big-endian form of its value (R16). -/
theorem bytesBE_beNat (s : List Byte) : bytesBE (beNat s) s.length = s := by
  induction s with
  | nil => rfl
  | cons b s ih =>
    rw [beNat_cons, List.length_cons, bytesBE, bytesBE_add_mul _ _ _ le_rfl, ih,
      Nat.add_mul_div_right _ _ (by positivity), Nat.div_eq_of_lt (beNat_lt s), Nat.zero_add,
      BitVec.ofNat_toNat, BitVec.setWidth_eq]

/-- An integer below 2^256 is the value of its 32 bytes (R84). -/
theorem beNat_bytesBE_32 {v : Nat} (h : v < 2 ^ 256) : beNat (bytesBE v 32) = v := by
  rw [beNat_bytesBE, Nat.mod_eq_of_lt (by simpa using h)]

/-! ### One limb -/

/-- Limb 0 is the string's first 32 bytes. -/
theorem limbNat_zero {s t : List Byte} (hs : s.length = 32) : limbNat (s ++ t) 0 = beNat s := by
  rw [limbNat, Nat.mul_zero, List.drop_zero, List.take_left' hs]

/-- Limb m + j of a string is limb j of what follows its first m limbs. -/
theorem limbNat_skip {s t : List Byte} {m : Nat} (hs : s.length = 32 * m) (j : Nat) :
    limbNat (s ++ t) (m + j) = limbNat t j := by
  rw [limbNat, limbNat, Nat.mul_add, ← hs, ← List.drop_drop, List.drop_left]

theorem fp_ofLimb_toBytes_append {a : MontWord} (ha : Fp.Canonical Config.params a) (t : List Byte) :
    Fp.ofLimb Config.params (Fp.toBytes Config.params a ++ t) 0 = a := by
  rw [Fp.ofLimb, limbNat_zero (toBytes_length a), enc_beNat_toBytes ha]

/-- Decoding the bytes of a canonical word gives it back (R183). -/
theorem fp_ofLimb_toBytes {a : MontWord} (ha : Fp.Canonical Config.params a) :
    Fp.ofLimb Config.params (Fp.toBytes Config.params a) 0 = a := by
  simpa using fp_ofLimb_toBytes_append ha []

theorem fp_ofLimb_skip {s t : List Byte} {m : Nat} (hs : s.length = 32 * m) (j : Nat) :
    Fp.ofLimb Config.params (s ++ t) (m + j) = Fp.ofLimb Config.params t j := by
  rw [Fp.ofLimb, Fp.ofLimb, limbNat_skip hs]

/-- Encoding a limb that was read gives back its 32 bytes, if it is below p (R183). -/
theorem fp_toBytes_ofLimb {s : List Byte} {j : Nat} (inside : 32 * j + 32 ≤ s.length)
    (below : limbNat s j < Config.params.p) :
    Fp.toBytes Config.params (Fp.ofLimb Config.params s j) = (s.drop (32 * j)).take 32 := by
  have hlen : ((s.drop (32 * j)).take 32).length = 32 := by simp; omega
  have hbytes := bytesBE_beNat ((s.drop (32 * j)).take 32)
  rw [hlen] at hbytes
  rw [Fp.toBytes, Fp.ofLimb, val_enc, Nat.mod_eq_of_lt below, limbNat, hbytes]

/-! ### Two limbs -/

theorem fp2_ofLimbs_toBytes_append {a : Fp2} (ha : Fp2.Canonical Config.params a) (t : List Byte) :
    Fp2.ofLimbs Config.params (Fp2.toBytes Config.params a ++ t) 0 = a := by
  obtain ⟨x, y⟩ := a
  obtain ⟨hx, hy⟩ := ha
  have second := fp_ofLimb_skip (t := Fp.toBytes Config.params y ++ t) (m := 1) (toBytes_length x) 0
  rw [Fp2.ofLimbs, Fp2.toBytes, List.append_assoc, fp_ofLimb_toBytes_append hx, Nat.zero_add, second,
    fp_ofLimb_toBytes_append hy]

theorem fp2_ofLimbs_skip {s t : List Byte} {m : Nat} (hs : s.length = 32 * m) (j : Nat) :
    Fp2.ofLimbs Config.params (s ++ t) (m + j) = Fp2.ofLimbs Config.params t j := by
  rw [Fp2.ofLimbs, Fp2.ofLimbs, fp_ofLimb_skip hs, Nat.add_assoc, fp_ofLimb_skip hs]

/-- Decoding the bytes of a canonical element of Fp2 gives it back (R220). -/
theorem fp2_ofLimbs_toBytes {a : Fp2} (ha : Fp2.Canonical Config.params a) :
    Fp2.ofLimbs Config.params (Fp2.toBytes Config.params a) 0 = a := by
  simpa using fp2_ofLimbs_toBytes_append ha []

theorem fp2_toBytes_ofLimbs {s : List Byte} {j : Nat} (inside : 32 * j + 64 ≤ s.length)
    (below : ∀ i < 2, limbNat s (j + i) < Config.params.p) :
    Fp2.toBytes Config.params (Fp2.ofLimbs Config.params s j) = (s.drop (32 * j)).take 64 := by
  have first := fp_toBytes_ofLimb (j := j) (by omega) (below 0 (by omega))
  have second := fp_toBytes_ofLimb (j := j + 1) (by omega) (below 1 (by omega))
  rw [Fp2.toBytes, Fp2.ofLimbs, first, second, Nat.mul_add, ← List.drop_drop, ← List.take_add]

/-! ### Twelve limbs -/

/-- The six elements of Fp2 of which R87 writes the bytes, in its order. -/
def fp12Parts (a : Fp12) : List Fp2 := [a.x.x, a.x.y, a.x.z, a.y.x, a.y.y, a.y.z]

theorem fp12_toBytes_eq_flatMap (a : Fp12) :
    Fp12.toBytes Config.params a = (fp12Parts a).flatMap (Fp2.toBytes Config.params) := by
  simp [Fp12.toBytes, fp12Parts]

/-- Of the bytes of several elements, limbs 2k and 2k + 1 are those of element k. -/
theorem fp2_ofLimbs_flatMap :
    ∀ {l : List Fp2} (_ : ∀ a ∈ l, Fp2.Canonical Config.params a) {k : Nat} (hk : k < l.length),
      Fp2.ofLimbs Config.params (l.flatMap (Fp2.toBytes Config.params)) (2 * k) = l[k] := by
  intro l
  induction l with
  | nil => exact fun _ _ hk => absurd hk (Nat.not_lt_zero _)
  | cons a l ih =>
    intro canonical k hk
    obtain ⟨ha, hl⟩ := List.forall_mem_cons.mp canonical
    rw [List.flatMap_cons]
    cases k with
    | zero => exact fp2_ofLimbs_toBytes_append ha _
    | succ k =>
      rw [Nat.mul_succ, Nat.add_comm, fp2_ofLimbs_skip (fp2_toBytes_length a)]
      exact ih hl (Nat.lt_of_succ_lt_succ hk)

/-- Decoding the bytes of a canonical element of Fp12 gives it back (R287). -/
theorem fp12_ofBytes_toBytes {a : Fp12} (ha : Fp12.Canonical Config.params a) :
    Fp12.ofBytes Config.params (Fp12.toBytes Config.params a) = a := by
  obtain ⟨⟨hx1, hx2, hx3⟩, ⟨hy1, hy2, hy3⟩⟩ := ha
  have canonical : ∀ b ∈ fp12Parts a, Fp2.Canonical Config.params b := by
    simp only [fp12Parts, List.forall_mem_cons]
    exact ⟨hx1, hx2, hx3, hy1, hy2, hy3, nofun⟩
  have part (k : Nat) (hk : k < 6) : Fp2.ofLimbs Config.params (Fp12.toBytes Config.params a)
      (2 * k) = (fp12Parts a)[k]'hk :=
    fp12_toBytes_eq_flatMap a ▸ fp2_ofLimbs_flatMap canonical hk
  rw [Fp12.ofBytes, part 0 (by decide), part 1 (by decide), part 2 (by decide), part 3 (by decide),
    part 4 (by decide), part 5 (by decide)]
  rfl

theorem fp12_toBytes_ofBytes {s : List Byte} (hs : s.length = 384)
    (below : ∀ j < 12, limbNat s j < Config.params.p) :
    Fp12.toBytes Config.params (Fp12.ofBytes Config.params s) = s := by
  have part {j : Nat} (hj : j + 2 ≤ 12) :
      Fp2.toBytes Config.params (Fp2.ofLimbs Config.params s j) = (s.drop (32 * j)).take 64 :=
    fp2_toBytes_ofLimbs (by omega) fun i hi => below (j + i) (by omega)
  rw [Fp12.toBytes, Fp12.ofBytes]
  simp only [part (j := 0), part (j := 2), part (j := 4), part (j := 6), part (j := 8),
    part (j := 10), Nat.reduceMul, Nat.reduceAdd, Nat.reduceLeDiff, List.drop_zero, ← List.take_add]
  exact List.take_of_length_le hs.le

/-! ### The conversions -/

/-- Two conversions in one direction multiply by R twice (R183). -/
theorem enc_enc_toNat (v : Nat) :
    (Fp.enc Config.params (Fp.enc Config.params v).toNat).toNat =
      v * (2 ^ 256) ^ 2 % Config.params.p := by
  rw [Fp.enc, Fp.enc, reduce_toNat, reduce_toNat, Nat.mod_mul_mod, montR, Nat.mul_assoc, ← sq]

/-- Settles O48: a limb below p and a canonical word determine each other, and each encoding multiplies by
R. -/
theorem conversionRoundTrip : Obligations.ConversionRoundTrip := by
  refine ⟨fun v hv => ?_, fun a ha => fp_ofLimb_toBytes ha, fun v _ => enc_enc_toNat v⟩
  have hlimb : limbNat (bytesBE v 32) 0 = v := by
    have h := limbNat_zero (t := []) (bytesBE_length v 32)
    rwa [List.append_nil, beNat_bytesBE_32 (hv.trans Config.params_valid.p_lt)] at h
  rw [Fp.toBytes, Fp.ofLimb, val_enc, hlimb, Nat.mod_eq_of_lt hv]

end Sys2Proof.Proofs
end

section
/-!
The codecs as commands: a decoder whose window is set to the bytes that an encoder has just appended, and an
encoder of the register that a decoder has just written. Both directions are proved once for a register file
and a pair of commands.
-/

namespace Sys2Proof.Proofs

open Sys2Proof Sys2Proof.Machine Sys2Proof.Laws

/-! ### The window set by the host -/

/-- The window that the host sets between the two commands (R52, R53). -/
def setWindow (t : State) (start len : Nat) : State :=
  { t with bptr := BitVec.ofNat 32 start, blen := BitVec.ofNat 32 len }

section Window

variable {t : State} {start len : Nat} (fits : start + len ≤ Config.bufBytes)
include fits

theorem setWindow_bptr : (setWindow t start len).bptr.toNat = start := by
  have bound : start + len ≤ 4096 := fits
  exact (BitVec.toNat_ofNat _ _).trans (Nat.mod_eq_of_lt (by omega))

theorem setWindow_blen : (setWindow t start len).blen.toNat = len := by
  have bound : start + len ≤ 4096 := fits
  exact (BitVec.toNat_ofNat _ _).trans (Nat.mod_eq_of_lt (by omega))

theorem setWindow_end : windowEnd (setWindow t start len) = start + len := by
  rw [windowEnd, setWindow_bptr fits, setWindow_blen fits]

end Window

/-! ### A register file of a codec -/

/-- A write to the file leaves the window, DBUF and FAULT, and the register reads what was written, whatever
ERR and the window become. -/
structure CodecFile {α : Type} (file : RegFile α) : Prop where
  keeps : KeepsWindow file
  fault : ∀ s f x, (file.write s f x).fault = s.fault
  reads : ∀ s f x (err bptr blen : Word32), f.toNat < 16 →
    file.read { file.write s f x with err, bptr, blen } f = some x

theorem fpFile_codec : CodecFile fpFile :=
  ⟨fun _ _ _ => ⟨rfl, rfl, rfl⟩, fun _ _ _ => rfl, fun s _ x _ _ _ => readReg_writeReg_same s.fp x⟩

theorem fp2File_codec : CodecFile fp2File :=
  ⟨fun _ _ _ => ⟨rfl, rfl, rfl⟩, fun _ _ _ => rfl, fun s _ x _ _ _ => readReg_writeReg_same s.fp2 x⟩

theorem fp12File_codec : CodecFile fp12File :=
  ⟨fun _ _ _ => ⟨rfl, rfl, rfl⟩, fun _ _ _ => rfl, fun s _ x _ _ _ => readReg_writeReg_same s.fp12 x⟩

theorem kFile_codec : CodecFile kFile :=
  ⟨fun _ _ _ => ⟨rfl, rfl, rfl⟩, fun _ _ _ => rfl, fun s _ x _ _ _ => readReg_writeReg_same s.k x⟩

/-- K.ST of a scalar that fits appends its 32 bytes (R379). -/
theorem kSt_appends {ka : Field6} {s : State} {k : Nat} (ready : Ready (.kSt ka) s)
    (hk : readReg s.k ka = some k) (small : k < 2 ^ 256) :
    Appends (.kSt ka) s 32 (bytesBE k 32) := by
  obtain ⟨effect, he, hsmall⟩ := storeScalar_of_read hk
  have shape : exec (.kSt ka) s = runCommand (.kSt ka) s (storeScalar ka s) := rfl
  rw [he, hsmall small] at shape
  exact appends_of_withRoom ready shape (bytesBE_length k 32)

section RoundTrips

variable {α : Type} {file : RegFile α} {enc dec : Instr} {s t : State} {rd : Field6} {len : Nat}
  {value : List Byte → α} {bytes : List Byte}

/-! ### Encode, then decode -/

/-- A decoder on the bytes that command `enc` has just appended writes their value. -/
theorem decode_after_encode (F : CodecFile file) (run : halted s = false)
    (appends : Appends enc s len bytes) (room : windowEnd s + len ≤ Config.bufBytes)
    (encoded : exec enc s = .next t) (hrd : rd.toNat < 16)
    (legal : dec.wellFormed = (inFile 16 rd && true))
    (shape : exec dec (setWindow t (windowEnd s) len) =
      runCommand dec (setWindow t (windowEnd s) len)
        (decodeReg file len value rd (setWindow t (windowEnd s) len)))
    {a : α} (restores : value bytes = a) :
    ∃ u, exec dec (setWindow t (windowEnd s) len) = .next u ∧ u.err = 0 ∧
      file.read u rd = some a := by
  obtain ⟨t', encoded', frame, _, written, _⟩ := appends room
  obtain rfl : t' = t := by simpa [encoded] using encoded'.symm
  have fault : t'.fault = s.fault := (congrArg State.fault frame :)
  have ready : Ready dec (setWindow t' (windowEnd s) len) :=
    ready_of_index ((halted_congr fault).trans run) hrd legal
  have read : memReadRange (setWindow t' (windowEnd s) len).dbuf
      (setWindow t' (windowEnd s) len).bptr.toNat len = some bytes := by
    rw [setWindow_bptr room]
    exact written
  refine ⟨_, exec_decodeReg file value F.keeps ready shape ((setWindow_end room).trans_le room)
    (setWindow_blen room).ge read, rfl, ?_⟩
  exact restores ▸ F.reads _ _ _ _ _ _ hrd

/-! ### Decode, then encode -/

/-- An encoder of the register that command `dec` has just written appends the bytes that it read. -/
theorem encode_after_decode (F : CodecFile file) (ready : Ready dec s)
    (legal : dec.wellFormed = (inFile 16 rd && true))
    (shape : exec dec s = runCommand dec s (decodeReg file len value rd s))
    (room : windowEnd s ≤ Config.bufBytes) (inside : len ≤ s.blen.toNat)
    (read : memReadRange s.dbuf s.bptr.toNat len = some bytes) (decoded : exec dec s = .next t)
    {start : Nat} (fits : start + len ≤ Config.bufBytes)
    (legal' : enc.wellFormed = dec.wellFormed)
    (appends : ∀ w, Ready enc w → file.read w rd = some (value bytes) → Appends enc w len bytes) :
    ∃ u, exec enc (setWindow t start 0) = .next u ∧
      memReadRange u.dbuf start len = some bytes := by
  have hrd : rd.toNat < 16 := by simpa [inFile_iff] using legal.symm.trans ready.legal
  rw [exec_decodeReg file value F.keeps ready shape room inside read] at decoded
  obtain rfl := Host.Outcome.next.inj decoded
  generalize ht : setWindow _ start 0 = w
  have held : file.read w rd = some (value bytes) := ht ▸ F.reads _ _ _ _ _ _ hrd
  have running : halted w = false :=
    (halted_congr (ht ▸ F.fault s rd (value bytes))).trans ready.running
  have windowEnd_w : windowEnd w = start := ht ▸ setWindow_end (by omega)
  obtain ⟨u, encoded, _, _, written, _⟩ :=
    appends w ⟨running, legal'.trans ready.legal⟩ held (windowEnd_w.symm ▸ fits)
  exact ⟨u, encoded, windowEnd_w ▸ written⟩

end RoundTrips

/-! ### The codecs -/

theorem fp_toBytes_ofLimb_whole {s : List Byte} (hs : s.length = 32)
    (below : limbNat s 0 < Config.params.p) :
    Fp.toBytes Config.params (Fp.ofLimb Config.params s 0) = s :=
  (fp_toBytes_ofLimb hs.ge below).trans (List.take_of_length_le hs.le)

theorem fp2_toBytes_ofLimbs_whole {s : List Byte} (hs : s.length = 64)
    (below : ∀ j < 2, limbNat s j < Config.params.p) :
    Fp2.toBytes Config.params (Fp2.ofLimbs Config.params s 0) = s :=
  (fp2_toBytes_ofLimbs hs.ge fun j hj => (Nat.zero_add j).symm ▸ below j hj).trans
    (List.take_of_length_le hs.le)

/-- The bytes of a scalar of 32 bytes are those it was read from (R385). -/
theorem bytesBE_beNat_32 {s : List Byte} (hs : s.length = 32) : bytesBE (beNat s) 32 = s :=
  hs ▸ bytesBE_beNat s

/-- Settles O60: the bytes that an encoder appends are those its decoder reads, and the codecs of values are
inverse both ways where the limbs are below p. -/
theorem fieldRoundTrips : Obligations.FieldRoundTrips := by
  refine ⟨?_, ?_, ?_, ?_, ?_, ?_, ?_, ?_⟩
  · intro ra rd s t a ready hrd ha canonical room encoded
    exact decode_after_encode fpFile_codec ready.running
      (appends_of_encodeReg fpFile (Fp.toBytes _) ready rfl (toBytes_length a) ha) room encoded hrd rfl
      rfl (fp_ofLimb_toBytes canonical)
  · intro ra rd s t a ready hrd ha canonical room encoded
    exact decode_after_encode fp2File_codec ready.running
      (appends_of_encodeReg fp2File (Fp2.toBytes _) ready rfl (fp2_toBytes_length a) ha) room encoded
      hrd rfl rfl (fp2_ofLimbs_toBytes canonical)
  · intro ra rd s t a ready hrd ha canonical room encoded
    exact decode_after_encode fp12File_codec ready.running
      (appends_of_encodeReg fp12File (Fp12.toBytes _) ready rfl (fp12_toBytes_length a) ha) room
      encoded hrd rfl rfl (fp12_ofBytes_toBytes canonical)
  · intro ra rd s t k ready hrd hk small room encoded
    exact decode_after_encode kFile_codec ready.running (kSt_appends ready hk small) room encoded hrd
      rfl rfl (beNat_bytesBE_32 small)
  · intro rd s t bytes start ready room inside read below decoded fits
    have codec := fp_toBytes_ofLimb_whole (memReadRange_length read) (below 0 Nat.one_pos)
    exact encode_after_decode fpFile_codec ready rfl rfl room inside read decoded fits rfl
      fun w ready' hw => codec ▸ appends_of_encodeReg fpFile (Fp.toBytes _) ready' rfl
        (toBytes_length _) hw
  · intro rd s t bytes start ready room inside read below decoded fits
    have codec := fp2_toBytes_ofLimbs_whole (memReadRange_length read) below
    exact encode_after_decode fp2File_codec ready rfl rfl room inside read decoded fits rfl
      fun w ready' hw => codec ▸ appends_of_encodeReg fp2File (Fp2.toBytes _) ready' rfl
        (fp2_toBytes_length _) hw
  · intro rd s t bytes start ready room inside read below decoded fits
    have codec := fp12_toBytes_ofBytes (memReadRange_length read) below
    exact encode_after_decode fp12File_codec ready rfl rfl room inside read decoded fits rfl
      fun w ready' hw => codec ▸ appends_of_encodeReg fp12File (Fp12.toBytes _) ready' rfl
        (fp12_toBytes_length _) hw
  · intro rd s t bytes start ready room length read decoded fits
    have hlen := memReadRange_length read
    have small : beNat bytes < 2 ^ 256 := by simpa [hlen] using beNat_lt bytes
    exact encode_after_decode kFile_codec ready rfl (length ▸ rfl) room length.ge read decoded fits rfl
      fun w ready' hw => bytesBE_beNat_32 hlen ▸ kSt_appends ready' hw small

end Sys2Proof.Proofs
end

section
/-!
Fp2 as a field: a canonical pair is known by its residue in Z/p(i), so the laws of R219 are those of that
field, and the component formulas of R203 to R208 and R217 are what the commands write.
-/

namespace Sys2Proof.Proofs

open Sys2Proof Sys2Proof.Machine Sys2Proof.Laws

/-! ### Pairs and their residues -/

@[simp] theorem fp2_residue_zero : Fp2.residue Fp2.zero = 0 := by
  ext <;> simp [Fp2.zero, Fp.zero]

@[simp] theorem fp2_residue_one : Fp2.residue (Fp2.one Config.params) = 1 := by
  ext <;> simp [Fp2.one, Fp.zero, QuadraticAlgebra.re_one, QuadraticAlgebra.im_one]

/-- The square row of R201: its constant part (y − x)·(y + x) is y² − x². -/
theorem fp2_residue_sqr (a : Fp2) :
    Fp2.residue (Fp2.sqr Config.params a) = Fp2.residue a * Fp2.residue a := by
  ext
  · simp [Fp2.sqr]; ring
  · simp [Fp2.sqr, mul_comm]

section Laws

variable {a b : Fp2}

/-- An identity of canonical pairs follows from that of their residues. -/
theorem fp2_eq_of_residue (ha : Fp2.Canonical Config.params a) (hb : Fp2.Canonical Config.params b)
    (h : Fp2.residue a = Fp2.residue b) : a = b :=
  (fp2_residue_inj ha hb).mp h

theorem fp2_residue_ne_zero (ha : Fp2.Canonical Config.params a) (nonzero : a ≠ Fp2.zero) :
    Fp2.residue a ≠ 0 :=
  fun h => nonzero (fp2_eq_of_residue ha fp2_zero_canonical (h.trans fp2_residue_zero.symm))

/-! ### The laws of R219 -/

theorem fp2_add_comm (a b : Fp2) : Fp2.add Config.params a b = Fp2.add Config.params b a := by
  rw [Fp2.add, Fp2.add, fp_add_comm a.x, fp_add_comm a.y]

theorem fp2_add_assoc (a b d : Fp2) : Fp2.add Config.params (Fp2.add Config.params a b) d =
    Fp2.add Config.params a (Fp2.add Config.params b d) := by
  simp only [Fp2.add, fp_add_assoc]

theorem fp2_add_zero (ha : Fp2.Canonical Config.params a) :
    Fp2.add Config.params a Fp2.zero = a := by
  obtain ⟨hx, hy⟩ := ha
  exact congrArg₂ Fp2.mk (fp_add_zero hx) (fp_add_zero hy)

theorem fp2_add_neg (a : Fp2) : Fp2.add Config.params a (Fp2.neg Config.params a) = Fp2.zero :=
  congrArg₂ Fp2.mk (fp_add_neg a.x) (fp_add_neg a.y)

theorem fp2_mul_comm (a b : Fp2) : Fp2.mul Config.params a b = Fp2.mul Config.params b a :=
  fp2_eq_of_residue (fp2_mul_canonical _ _) (fp2_mul_canonical _ _) <| by
    rw [fp2_residue_mul, fp2_residue_mul, mul_comm]

theorem fp2_mul_assoc (a b d : Fp2) : Fp2.mul Config.params (Fp2.mul Config.params a b) d =
    Fp2.mul Config.params a (Fp2.mul Config.params b d) :=
  fp2_eq_of_residue (fp2_mul_canonical _ _) (fp2_mul_canonical _ _) <| by
    simp only [fp2_residue_mul, mul_assoc]

theorem fp2_mul_add (a b d : Fp2) : Fp2.mul Config.params a (Fp2.add Config.params b d) =
    Fp2.add Config.params (Fp2.mul Config.params a b) (Fp2.mul Config.params a d) :=
  fp2_eq_of_residue (fp2_mul_canonical _ _) (fp2_add_canonical _ _) <| by
    simp only [fp2_residue_mul, fp2_residue_add, mul_add]

theorem fp2_sqr_eq_mul (a : Fp2) : Fp2.sqr Config.params a = Fp2.mul Config.params a a :=
  fp2_eq_of_residue (fp2_sqr_canonical _) (fp2_mul_canonical _ _) <| by
    rw [fp2_residue_sqr, fp2_residue_mul]

theorem fp2_mulXi_mul (a b : Fp2) : Fp2.mulXi Config.params (Fp2.mul Config.params a b) =
    Fp2.mul Config.params (Fp2.mulXi Config.params a) b := by
  rw [Fp2.mulXi, Fp2.mulXi, fp2_mul_assoc, fp2_mul_comm b, ← fp2_mul_assoc]

/-- The inverse exists because −1 is no square modulo p, which makes Z/p(i) a field (R10, R208). -/
theorem fp2_mul_inv (ha : Fp2.Canonical Config.params a) (nonzero : a ≠ Fp2.zero) :
    Fp2.mul Config.params a (Fp2.inv Config.params a) = Fp2.one Config.params := by
  have := p_fact
  have : Fact (∀ r : PField, r ^ 2 ≠ -1 + 0 * r) := ⟨neg_one_not_square⟩
  refine fp2_eq_of_residue (fp2_mul_canonical _ _) fp2_one_canonical ?_
  rw [fp2_residue_mul, fp2_residue_inv, fp2_residue_one,
    mul_inv_cancel₀ (fp2_residue_ne_zero ha nonzero)]

end Laws

/-- Settles O49: sums by the laws of Fp, products by those of Z/p(i), read on the residues. -/
theorem fp2FieldLaws : Obligations.Fp2FieldLaws := fun a b d ha _ _ =>
  ⟨fp2_add_comm a b, fp2_mul_comm a b, fp2_add_assoc a b d, fp2_add_zero ha, fp2_add_canonical a b,
    fp2_mul_canonical a b, fp2_neg_canonical a, fp2_inv_canonical a, fp2_mul_assoc a b d,
    fp2_mul_add a b d, fp2_mul_one_of_canonical ha, fp2_add_neg a, fp2_sqr_eq_mul a, fp2_mul_inv ha,
    fp2_mulXi_mul a b⟩

/-! ### The commands -/

/-- Settles O21: each command writes its component formula; SQR and MUL write the same pair, and INV the
inverse of Z/p(i). -/
theorem fp2Results : Obligations.Fp2Results := by
  intro rd ra rb s a b run hrd hra hrb hreadA hreadB ha _ c put
  have two {i : Instr} := ready_of_two (i := i) run hrd hra
  have three {i : Instr} := ready_of_three (i := i) run hrd hra hrb
  refine ⟨?_, ?_, ?_, ?_, ?_, ?_, fun nonzero => ⟨Fp2.inv c a, fp2_inv_canonical a, ?_,
    (fp2_mul_comm _ _).trans (fp2_mul_inv ha nonzero)⟩⟩
  · exact exec_success (three rfl) rfl (binary_of_read hreadA hreadB) rfl
  · exact exec_success (three rfl) rfl (binary_of_read hreadA hreadB) rfl
  · exact exec_success (two rfl) rfl (unary_of_read hreadA) rfl
  · exact exec_success (three rfl) rfl (binary_of_read hreadA hreadB) rfl
  · have square : exec (.fp2Sqr rd ra) s = .next (put (Fp2.sqr c a)) :=
      exec_success (two rfl) rfl (unary_of_read hreadA) rfl
    have product : exec (.fp2Mul rd ra ra) s = .next (put (Fp2.mul c a a)) :=
      exec_success (ready_of_three run hrd hra hra rfl) rfl (binary_of_read hreadA hreadA) rfl
    rw [square, product, fp2_sqr_eq_mul]
  · exact exec_success (two rfl) rfl (unary_of_read hreadA) rfl
  · exact exec_success (two rfl) rfl (unaryNonzero_of_read hreadA nonzero) rfl

end Sys2Proof.Proofs
end

section
/-!
Fp6 as a cubic extension: a canonical triple is known by its residue in Z/p(i)[τ] with τ³ = ξ, so the laws of
R250 are those of that ring; an element other than zero has an inverse because ξ is no cube (R10, R233).
-/

namespace Sys2Proof.Proofs

open Sys2Proof Sys2Proof.Machine Sys2Proof.Laws Polynomial

/-! ### The ring Z/p(i)[τ] -/

/-- ξ as an element of Z/p(i). -/
abbrev xiResidue : QField := Fp2.residue Config.params.xi

/-- The ring Z/p(i)[τ] with τ³ = ξ (R230). -/
abbrev CubicRing : Type := AdjoinRoot (X ^ 3 - C xiResidue)

/-- An element of Z/p(i) in the ring. -/
noncomputable abbrev cubicOf : QField →+* CubicRing := AdjoinRoot.of _

/-- τ. -/
noncomputable abbrev tau : CubicRing := AdjoinRoot.root _

/-- τ³ = ξ (R230). -/
theorem tau_cube : tau ^ 3 = cubicOf xiResidue := by
  have root := AdjoinRoot.isRoot_root (X ^ 3 - C xiResidue)
  simpa [IsRoot, sub_eq_zero] using root

/-- x·τ² + y·τ + z (R230). -/
noncomputable def cubicElement (x y z : QField) : CubicRing :=
  cubicOf x * tau ^ 2 + cubicOf y * tau + cubicOf z

theorem cubicElement_sub (x y z u v w : QField) :
    cubicElement x y z - cubicElement u v w = cubicElement (x - u) (y - v) (z - w) := by
  simp only [cubicElement, map_sub]
  ring

/-- 1, τ and τ² are independent, since a polynomial below degree 3 is no multiple of X³ − ξ. -/
theorem cubicElement_eq_zero {x y z : QField} (h : cubicElement x y z = 0) :
    x = 0 ∧ y = 0 ∧ z = 0 := by
  have := p_fact
  have poly : AdjoinRoot.mk (X ^ 3 - C xiResidue) (C x * X ^ 2 + C y * X + C z) = 0 := by
    simpa [cubicElement] using h
  have vanishes : C x * X ^ 2 + C y * X + C z = 0 := by
    by_contra nonzero
    refine AdjoinRoot.mk_ne_zero_of_natDegree_lt (monic_X_pow_sub_C xiResidue three_ne_zero)
      nonzero ?_ poly
    rw [natDegree_X_pow_sub_C]
    exact Nat.lt_succ_of_le natDegree_quadratic_le
  have coeff (n : ℕ) := congrArg (Polynomial.coeff · n) vanishes
  exact ⟨by simpa using coeff 2, by simpa using coeff 1, by simpa using coeff 0⟩

/-! ### Triples and their residues -/

/-- (x, y, z) as x·τ² + y·τ + z (R230). -/
noncomputable def Fp6.residue (a : Fp6) : CubicRing :=
  cubicElement (Fp2.residue a.x) (Fp2.residue a.y) (Fp2.residue a.z)

theorem fp2_residue_mulXi (a : Fp2) :
    Fp2.residue (Fp2.mulXi Config.params a) = Fp2.residue a * xiResidue :=
  fp2_residue_mul _ _

theorem fp6_residue_zero : Fp6.residue Fp6.zero = 0 := by
  simp [Fp6.residue, cubicElement, Fp6.zero]

theorem fp6_residue_one : Fp6.residue (Fp6.one Config.params) = 1 := by
  simp [Fp6.residue, cubicElement, Fp6.one]

theorem fp6_residue_add (a b : Fp6) :
    Fp6.residue (Fp6.add Config.params a b) = Fp6.residue a + Fp6.residue b := by
  simp only [Fp6.residue, cubicElement, Fp6.add, fp2_residue_add, map_add]
  ring

theorem fp6_residue_neg (a : Fp6) : Fp6.residue (Fp6.neg Config.params a) = -Fp6.residue a := by
  simp only [Fp6.residue, cubicElement, Fp6.neg, fp2_residue_neg, map_neg]
  ring

theorem fp6_residue_scale (s : Fp2) (a : Fp6) :
    Fp6.residue (Fp6.scale Config.params s a) = cubicOf (Fp2.residue s) * Fp6.residue a := by
  simp only [Fp6.residue, cubicElement, Fp6.scale, fp2_residue_mul, map_mul]
  ring

/-- The product row of R231. -/
theorem fp6_residue_mul (a b : Fp6) :
    Fp6.residue (Fp6.mul Config.params a b) = Fp6.residue a * Fp6.residue b := by
  simp only [Fp6.residue, cubicElement, Fp6.mul, fp2_residue_add, fp2_residue_mulXi,
    fp2_residue_mul, map_add, map_mul, ← tau_cube]
  ring

theorem fp6_residue_mulTau (a : Fp6) :
    Fp6.residue (Fp6.mulTau Config.params a) = tau * Fp6.residue a := by
  simp only [Fp6.residue, cubicElement, Fp6.mulTau, fp2_residue_mulXi, map_mul, ← tau_cube]
  ring

section Laws

variable {a b : Fp6}

/-- An identity of canonical triples follows from that of their residues. -/
theorem fp6_eq_of_residue (ha : Fp6.Canonical Config.params a) (hb : Fp6.Canonical Config.params b)
    (h : Fp6.residue a = Fp6.residue b) : a = b := by
  obtain ⟨x, y, z⟩ := a
  obtain ⟨u, v, w⟩ := b
  obtain ⟨cx, cy, cz⟩ := ha
  obtain ⟨cu, cv, cw⟩ := hb
  have difference := cubicElement_sub .. ▸ sub_eq_zero.mpr h
  obtain ⟨hx, hy, hz⟩ := cubicElement_eq_zero difference
  exact (Fp6.mk.injEq ..).mpr ⟨fp2_eq_of_residue cx cu (sub_eq_zero.mp hx),
    fp2_eq_of_residue cy cv (sub_eq_zero.mp hy), fp2_eq_of_residue cz cw (sub_eq_zero.mp hz)⟩

/-! ### The laws of R250 -/

theorem fp6_add_comm (a b : Fp6) : Fp6.add Config.params a b = Fp6.add Config.params b a := by
  simp only [Fp6.add, fp2_add_comm]

theorem fp6_add_assoc (a b d : Fp6) : Fp6.add Config.params (Fp6.add Config.params a b) d =
    Fp6.add Config.params a (Fp6.add Config.params b d) := by
  simp only [Fp6.add, fp2_add_assoc]

theorem fp6_add_zero (ha : Fp6.Canonical Config.params a) :
    Fp6.add Config.params a Fp6.zero = a := by
  obtain ⟨hx, hy, hz⟩ := ha
  simp only [Fp6.add, Fp6.zero, fp2_add_zero hx, fp2_add_zero hy, fp2_add_zero hz]

theorem fp6_add_neg (a : Fp6) : Fp6.add Config.params a (Fp6.neg Config.params a) = Fp6.zero := by
  simp only [Fp6.add, Fp6.neg, Fp6.zero, fp2_add_neg]

theorem fp6_mul_comm (a b : Fp6) : Fp6.mul Config.params a b = Fp6.mul Config.params b a :=
  fp6_eq_of_residue (fp6_mul_canonical _ _) (fp6_mul_canonical _ _) <| by
    rw [fp6_residue_mul, fp6_residue_mul, mul_comm]

theorem fp6_mul_assoc (a b d : Fp6) : Fp6.mul Config.params (Fp6.mul Config.params a b) d =
    Fp6.mul Config.params a (Fp6.mul Config.params b d) :=
  fp6_eq_of_residue (fp6_mul_canonical _ _) (fp6_mul_canonical _ _) <| by
    simp only [fp6_residue_mul, mul_assoc]

theorem fp6_mul_add (a b d : Fp6) : Fp6.mul Config.params a (Fp6.add Config.params b d) =
    Fp6.add Config.params (Fp6.mul Config.params a b) (Fp6.mul Config.params a d) :=
  fp6_eq_of_residue (fp6_mul_canonical _ _) (fp6_add_canonical _ _) <| by
    simp only [fp6_residue_mul, fp6_residue_add, mul_add]

theorem fp6_mul_one (ha : Fp6.Canonical Config.params a) :
    Fp6.mul Config.params a (Fp6.one Config.params) = a :=
  fp6_eq_of_residue (fp6_mul_canonical _ _) ha <| by
    rw [fp6_residue_mul, fp6_residue_one, mul_one]

/-! ### The inverse (R233) -/

/-- The pairs of canonical words run through Z/p(i). -/
theorem exists_canonical_residue (q : QField) :
    ∃ a, Fp2.Canonical Config.params a ∧ Fp2.residue a = q := by
  have := p_fact
  obtain ⟨i, hi⟩ := residue_wordOf_bijective.surjective q.im
  obtain ⟨j, hj⟩ := residue_wordOf_bijective.surjective q.re
  exact ⟨⟨wordOf i, wordOf j⟩, ⟨wordOf_canonical i, wordOf_canonical j⟩,
    QuadraticAlgebra.ext hj hi⟩

/-- ξ is no cube (R10, R13). -/
theorem xi_ne_cube (q : QField) : q ^ 3 ≠ xiResidue := by
  obtain ⟨a, ha, rfl⟩ := exists_canonical_residue q
  intro cube
  refine Config.params_valid.xi_not_cube a ha (fp2_eq_of_residue (fp2_mul_canonical _ _)
    Config.params_valid.xi_canonical ?_)
  rw [fp2_residue_mul, fp2_residue_mul, ← pow_three', cube]

/-- In a field where ξ is no cube, the cofactors of R233 vanish together at zero alone. -/
theorem eq_zero_of_cofactors {K : Type} [Field K] {xi x y z : K} (noCube : ∀ t : K, t ^ 3 ≠ xi)
    (hC : y * y - x * z = 0) (hB : x * x * xi - y * z = 0) (hA : z * z - x * y * xi = 0) :
    x = 0 ∧ y = 0 ∧ z = 0 := by
  have hx : x = 0 := by
    by_contra nonzero
    refine noCube (y / x) ?_
    field_simp
    linear_combination y * hC - x * hB
  subst hx
  exact ⟨rfl, by simpa using hC, by simpa using hA⟩

theorem fp6_eq_zero_of_cofactor (ha : Fp6.Canonical Config.params a)
    (h : Fp6.cofactor Config.params a = Fp6.zero) : a = Fp6.zero := by
  have := p_fact
  have := fp2_fact
  have hC := congrArg (Fp2.residue ∘ Fp6.x) h
  have hB := congrArg (Fp2.residue ∘ Fp6.y) h
  have hA := congrArg (Fp2.residue ∘ Fp6.z) h
  simp only [Function.comp, Fp6.cofactor, Fp6.zero, fp2_residue_sub, fp2_residue_mul,
    fp2_residue_mulXi, fp2_residue_zero] at hC hB hA
  obtain ⟨hx, hy, hz⟩ := eq_zero_of_cofactors xi_ne_cube hC hB hA
  refine fp6_eq_of_residue ha fp6_zero_canonical ?_
  rw [Fp6.residue, hx, hy, hz, fp6_residue_zero]
  simp [cubicElement]

/-- The element times its cofactors is its norm. -/
theorem fp6_residue_mul_cofactor (a : Fp6) :
    Fp6.residue a * Fp6.residue (Fp6.cofactor Config.params a) =
      cubicOf (Fp2.residue (Fp6.norm Config.params a)) := by
  simp only [Fp6.residue, cubicElement, Fp6.norm, Fp6.cofactor, fp2_residue_add, fp2_residue_sub,
    fp2_residue_mul, fp2_residue_mulXi, map_add, map_sub, map_mul, ← tau_cube]
  ring

/-- Taking cofactors twice multiplies by the norm. -/
theorem fp6_cofactor_cofactor (a : Fp6) :
    Fp6.cofactor Config.params (Fp6.cofactor Config.params a) =
      Fp6.scale Config.params (Fp6.norm Config.params a) a := by
  simp only [Fp6.scale, Fp6.cofactor, Fp6.norm, Fp6.mk.injEq]
  refine ⟨?_, ?_, ?_⟩
  all_goals
    refine fp2_eq_of_residue (fp2_sub_canonical _ _) (fp2_mul_canonical _ _) ?_
    simp only [fp2_residue_add, fp2_residue_sub, fp2_residue_mul, fp2_residue_mulXi]
    ring

theorem fp6_cofactor_canonical (a : Fp6) :
    Fp6.Canonical Config.params (Fp6.cofactor Config.params a) :=
  ⟨fp2_sub_canonical _ _, fp2_sub_canonical _ _, fp2_sub_canonical _ _⟩

/-- An element of norm zero is zero: its cofactors have cofactors zero. -/
theorem fp6_norm_ne_zero (ha : Fp6.Canonical Config.params a) (nonzero : a ≠ Fp6.zero) :
    Fp2.residue (Fp6.norm Config.params a) ≠ 0 := by
  intro norm
  refine nonzero (fp6_eq_zero_of_cofactor ha (fp6_eq_zero_of_cofactor (fp6_cofactor_canonical a) ?_))
  refine fp6_eq_of_residue (fp6_cofactor_canonical _) fp6_zero_canonical ?_
  rw [fp6_cofactor_cofactor, fp6_residue_scale, norm, map_zero, zero_mul, fp6_residue_zero]

theorem fp6_mul_inv (ha : Fp6.Canonical Config.params a) (nonzero : a ≠ Fp6.zero) :
    Fp6.mul Config.params a (Fp6.inv Config.params a) = Fp6.one Config.params := by
  have := p_fact
  have := fp2_fact
  refine fp6_eq_of_residue (fp6_mul_canonical _ _) fp6_one_canonical ?_
  rw [fp6_residue_mul, Fp6.inv, fp6_residue_scale, fp2_residue_inv, mul_left_comm,
    fp6_residue_mul_cofactor, ← map_mul, inv_mul_cancel₀ (fp6_norm_ne_zero ha nonzero), map_one,
    fp6_residue_one]

end Laws

/-- Settles O50: sums by the laws of Fp2, products by those of Z/p(i)[τ], read on the residues, and the
triple product by τ from the definition of MULTAU. -/
theorem fp6FieldLaws : Obligations.Fp6FieldLaws := fun a b d ha _ _ =>
  ⟨fp6_add_comm a b, fp6_mul_comm a b, fp6_add_assoc a b d, fp6_add_zero ha, fp6_add_canonical a b,
    fp6_mul_canonical a b, fp6_neg_canonical a, fp6_inv_canonical a, fp6_mul_assoc a b d,
    fp6_mul_add a b d, fp6_mul_one ha, fp6_add_neg a, rfl, fp6_mul_inv ha, rfl⟩

/-! ### The commands -/

/-- MULXI with ξ as the first factor, as the formulas of R237 and R249 write it. -/
theorem fp2_mulXi_eq_xi_mul (a : Fp2) :
    Fp2.mulXi Config.params a = Fp2.mul Config.params Config.params.xi a :=
  fp2_mul_comm _ _

/-- Settles O22: each command writes its component formula, the Frobenius maps with the constants of R232, and
INV the inverse of Z/p(i)[τ]. -/
theorem fp6Results : Obligations.Fp6Results := by
  intro rd ra rb s a b run hrd hra hrb hreadA hreadB ha _ c put
  have two {i : Instr} := ready_of_two (i := i) run hrd hra
  have three {i : Instr} := ready_of_three (i := i) run hrd hra hrb
  have written {v w : Fp6} (h : v = w) : succeed (fp6File.write s rd v) = put w := by rw [h]; rfl
  have valid := Config.params_valid
  refine ⟨?_, ?_, ?_, ?_, ?_, ?_, ?_, ?_, ?_, fun nonzero => ⟨Fp6.inv c a, fp6_inv_canonical a, ?_,
    (fp6_mul_comm _ _).trans (fp6_mul_inv ha nonzero)⟩⟩
  · exact exec_success (three rfl) rfl (binary_of_read hreadA hreadB) rfl
  · exact exec_success (three rfl) rfl (binary_of_read hreadA hreadB) rfl
  · exact exec_success (two rfl) rfl (unary_of_read hreadA) rfl
  · refine exec_success (three rfl) rfl (binary_of_read hreadA hreadB) (written ?_)
    rw [Fp6.mul, fp2_mulXi_eq_xi_mul, fp2_mulXi_eq_xi_mul]
  · have square : exec (.fp6Sqr rd ra) s = .next (put (Fp6.sqr c a)) :=
      exec_success (two rfl) rfl (unary_of_read hreadA) rfl
    have product : exec (.fp6Mul rd ra ra) s = .next (put (Fp6.mul c a a)) :=
      exec_success (ready_of_three run hrd hra hra rfl) rfl (binary_of_read hreadA hreadA) rfl
    exact square.trans product.symm
  · refine exec_success (two rfl) rfl (unary_of_read hreadA) (written ?_)
    rw [Fp6.mulTau, fp2_mulXi_eq_xi_mul]
  · refine exec_success (two rfl) rfl (unary_of_read hreadA) (written ?_)
    rw [Fp6.frob, valid.xi2P1d3_eq, valid.xiP1d3_eq]
    rfl
  · refine exec_success (two rfl) rfl (unary_of_read hreadA) (written ?_)
    rw [Fp6.frobP2, valid.xi2P2d3_eq, valid.xiP2d3_eq]
  · refine exec_success (two rfl) rfl (unary_of_read hreadA) (written ?_)
    rw [Fp6.frobP4, valid.xi2P2d3_eq, valid.xiP2d3_eq]
  · exact exec_success (two rfl) rfl (unaryNonzero_of_read hreadA nonzero) rfl

end Sys2Proof.Proofs
end

section
/-!
The constants of the Frobenius maps and the maps of Fp6 (R232, R251, R262). Every constant is a power of
κ = ξ^((p−1)/6) or of μ = ξ^((p²−1)/6) = κ^p·κ, and μ³ = −1 because ξ is no square. FROB is the p-th power on
the residues, so it respects sums and products.
-/

namespace Sys2Proof.Proofs

open Sys2Proof Sys2Proof.Machine Sys2Proof.Laws QuadraticAlgebra

/-! ### The p-th power in a quadratic extension -/

/-- In characteristic p, the p-th power of x·ω + y with ω² = d. -/
theorem quadratic_pow_char {R : Type} [CommRing R] {p : ℕ} [Fact p.Prime] [CharP R p] {d : R}
    (odd : p % 2 = 1) (z : QuadraticAlgebra R d 0) :
    z ^ p = ⟨z.re ^ p, z.im ^ p * d ^ (p / 2)⟩ := by
  have : CharP (QuadraticAlgebra R d 0) p :=
    charP_of_injective_algebraMap algebraMap_injective p
  have omega_pow : (ω : QuadraticAlgebra R d 0) ^ p = .C (d ^ (p / 2)) * ω := by
    have square : (ω : QuadraticAlgebra R d 0) ^ 2 = .C d := by
      rw [sq, omega_mul_omega_eq_mk]
      rfl
    rw [C_pow, ← square, ← pow_mul, ← pow_succ, show 2 * (p / 2) + 1 = p by omega]
  have parts (w : QuadraticAlgebra R d 0) : w = .C w.re + .C w.im * ω := by ext <;> simp
  calc z ^ p = (.C z.re + .C z.im * ω) ^ p := congrArg (· ^ p) (parts z)
    _ = .C (z.re ^ p) + .C (z.im ^ p * d ^ (p / 2)) * ω := by
      simp only [add_pow_char, mul_pow, omega_pow, C_pow, C_mul, mul_assoc]
    _ = ⟨z.re ^ p, z.im ^ p * d ^ (p / 2)⟩ := (parts ⟨_, _⟩).symm

/-- The p-th power of Z/p(i) is the conjugation, since p ≡ 3 (mod 4) (R218). -/
theorem qfield_pow_p (q : QField) : q ^ Config.params.p = star q := by
  have := p_fact
  have hp := Config.params_valid.p_mod
  have half : Odd (Config.params.p / 2) := Nat.odd_iff.mpr (by omega)
  rw [quadratic_pow_char (by omega), ZMod.pow_card, ZMod.pow_card, half.neg_one_pow]
  ext <;> simp

theorem qfield_pow_p_pow_p (q : QField) :
    (q ^ Config.params.p) ^ Config.params.p = q := by
  rw [qfield_pow_p, qfield_pow_p, star_star]

theorem fp2_residue_conj (a : Fp2) :
    Fp2.residue (Fp2.conj Config.params a) = Fp2.residue a ^ Config.params.p := by
  rw [qfield_pow_p]
  ext <;> simp [Fp2.conj]

/-! ### The powers of ξ -/

/-- The loop of R282 over Fp2 computes the power. -/
theorem fp2_residue_pow (a : Fp2) (e : ℕ) :
    Fp2.residue (Fp2.pow Config.params a e) = Fp2.residue a ^ e := by
  refine msbLoop_rel (fun r m => Fp2.residue r = Fp2.residue a ^ m) _ _ _ e (by simp) ?_
  intro r m bit hr
  have square : Fp2.residue (Fp2.mul Config.params r r) = Fp2.residue a ^ (2 * m) := by
    rw [fp2_residue_mul, hr, two_mul, pow_add]
  cases bit with
  | false => exact square
  | true =>
    rw [msbRound, if_pos rfl, fp2_residue_mul, square, Bool.toNat_true, pow_succ]

/-- κ = ξ^((p−1)/6), the residue of `XI_P1_6` (R262). -/
def kappa : QField := xiResidue ^ ((Config.params.p - 1) / 6)

/-- μ = ξ^((p²−1)/6), the residue of `XI_P2_6` (R262). -/
def mu : QField := xiResidue ^ ((Config.params.p ^ 2 - 1) / 6)

/-- With p = 6·e + 1, p² − 1 is 6·e·(p + 1). -/
theorem p_sq_sub_one :
    Config.params.p ^ 2 - 1 = 6 * ((Config.params.p - 1) / 6 * (Config.params.p + 1)) := by
  have hp := Config.params_valid.p_mod
  have h : Config.params.p = 6 * ((Config.params.p - 1) / 6) + 1 := by omega
  generalize (Config.params.p - 1) / 6 = e at h
  have square : (6 * e + 1) ^ 2 = 6 * (e * (6 * e + 1 + 1)) + 1 := by ring
  rw [h, square, Nat.add_sub_cancel]

theorem residue_xiP1d6 : Fp2.residue Config.params.xiP1d6 = kappa := by
  rw [kappa, Config.params_valid.xiP1d6_eq, fp2_residue_pow]

theorem residue_xiP1d3 : Fp2.residue Config.params.xiP1d3 = kappa ^ 2 := by
  have hp := Config.params_valid.p_mod
  rw [kappa, Config.params_valid.xiP1d3_eq, fp2_residue_pow, ← pow_mul]
  congr 1
  omega

theorem residue_xi2P1d3 : Fp2.residue Config.params.xi2P1d3 = kappa ^ 4 := by
  have hp := Config.params_valid.p_mod
  rw [kappa, Config.params_valid.xi2P1d3_eq, fp2_residue_pow, ← pow_mul]
  congr 1
  omega

theorem residue_xiP2d6 : Fp2.residue Config.params.xiP2d6 = mu := by
  rw [mu, Config.params_valid.xiP2d6_eq, fp2_residue_pow]

theorem residue_xiP2d3 : Fp2.residue Config.params.xiP2d3 = mu ^ 2 := by
  have hp := p_sq_sub_one
  rw [mu, Config.params_valid.xiP2d3_eq, fp2_residue_pow, ← pow_mul]
  congr 1
  omega

theorem residue_xi2P2d3 : Fp2.residue Config.params.xi2P2d3 = mu ^ 4 := by
  have hp := p_sq_sub_one
  rw [mu, Config.params_valid.xi2P2d3_eq, fp2_residue_pow, ← pow_mul]
  congr 1
  omega

theorem mu_eq : mu = kappa ^ Config.params.p * kappa := by
  rw [mu, kappa, ← pow_succ, ← pow_mul, p_sq_sub_one, Nat.mul_div_cancel_left _ (by decide)]

/-- Z/p(i) has p² elements, so a value that is no square has the power −1 at (p²−1)/2. -/
theorem qfield_pow_half {q : QField} (nonsquare : ¬ IsSquare q) :
    q ^ (Config.params.p ^ 2 / 2) = -1 := by
  have := p_fact
  have := fp2_fact
  have hp := Config.params_valid.p_mod
  let _ : Fintype QField := Fintype.ofEquiv _ (equivProd (-1 : PField) 0).symm
  have card : Fintype.card QField = Config.params.p ^ 2 := by
    rw [Fintype.ofEquiv_card, Fintype.card_prod, ZMod.card, sq]
  have : CharP QField Config.params.p := charP_of_injective_algebraMap algebraMap_injective _
  have char : ringChar QField ≠ 2 := by
    rw [ringChar.eq QField Config.params.p]
    omega
  have nonzero : q ≠ 0 := by
    rintro rfl
    exact nonsquare IsSquare.zero
  rw [← card]
  exact (FiniteField.pow_dichotomy char nonzero).resolve_left
    fun one => nonsquare ((FiniteField.isSquare_iff char nonzero).mpr one)

/-- ξ is no square (R10, R13). -/
theorem xi_not_isSquare : ¬ IsSquare xiResidue := by
  rintro ⟨q, hq⟩
  obtain ⟨a, ha, rfl⟩ := exists_canonical_residue q
  refine Config.params_valid.xi_not_square a ha (fp2_eq_of_residue (fp2_mul_canonical _ _)
    Config.params_valid.xi_canonical ?_)
  exact (fp2_residue_mul a a).trans hq.symm

theorem mu_cube : mu ^ 3 = -1 := by
  have hp := p_sq_sub_one
  have pos : 0 < Config.params.p ^ 2 := pow_pos p_pos 2
  rw [mu, ← qfield_pow_half xi_not_isSquare, ← pow_mul]
  congr 1
  omega

/-- μ² and μ⁴ are the cube roots of unity (R247). -/
theorem mu_pow_six : mu ^ 6 = 1 := by
  rw [pow_mul mu 3 2, mu_cube, neg_one_sq]

/-! ### The Frobenius maps of Fp6 -/

theorem cubicRing_charP : CharP CubicRing Config.params.p := by
  have := p_fact
  have := fp2_fact
  have : CharP QField Config.params.p := charP_of_injective_algebraMap algebraMap_injective _
  refine charP_of_injective_ringHom (f := cubicOf) (AdjoinRoot.coe_injective ?_) _
  rw [Polynomial.degree_X_pow_sub_C three_pos]
  decide

/-- τ^p = κ²·τ (R232). -/
theorem tau_pow_p : tau ^ Config.params.p = cubicOf (kappa ^ 2) * tau := by
  have hp := Config.params_valid.p_mod
  rw [kappa, ← pow_mul, map_pow, ← tau_cube, ← pow_mul, ← pow_succ]
  congr 1
  omega

/-- FROB is the p-th power (R246, R251). -/
theorem fp6_residue_frob (a : Fp6) :
    Fp6.residue (Fp6.frob Config.params a) = Fp6.residue a ^ Config.params.p := by
  have := p_fact
  have := cubicRing_charP
  simp only [Fp6.residue, cubicElement, Fp6.frob, fp2_residue_mul, fp2_residue_conj,
    residue_xi2P1d3, residue_xiP1d3, add_pow_char, mul_pow, pow_right_comm tau 2,
    tau_pow_p, map_mul, map_pow]
  ring

/-- FROB respects the sum (R251). -/
theorem fp6_frob_add (a b : Fp6) :
    Fp6.frob Config.params (Fp6.add Config.params a b) =
      Fp6.add Config.params (Fp6.frob Config.params a) (Fp6.frob Config.params b) := by
  have := p_fact
  have := cubicRing_charP
  refine fp6_eq_of_residue (fp6_frob_canonical (fp6_add_canonical _ _)) (fp6_add_canonical _ _) ?_
  simp only [fp6_residue_frob, fp6_residue_add, add_pow_char]

/-- FROB respects the product (R251). -/
theorem fp6_frob_mul (a b : Fp6) :
    Fp6.frob Config.params (Fp6.mul Config.params a b) =
      Fp6.mul Config.params (Fp6.frob Config.params a) (Fp6.frob Config.params b) := by
  refine fp6_eq_of_residue (fp6_frob_canonical (fp6_mul_canonical _ _)) (fp6_mul_canonical _ _) ?_
  simp only [fp6_residue_frob, fp6_residue_mul, mul_pow]

section Compositions

variable {a : Fp6}

theorem fp6_frob_frob (ha : Fp6.Canonical Config.params a) :
    Fp6.frob Config.params (Fp6.frob Config.params a) = Fp6.frobP2 Config.params a := by
  obtain ⟨-, -, hz⟩ := ha
  simp only [Fp6.frob, Fp6.frobP2, Fp6.mk.injEq]
  refine ⟨?_, ?_, ?_⟩
  · refine fp2_eq_of_residue (fp2_mul_canonical _ _) (fp2_mul_canonical _ _) ?_
    simp only [fp2_residue_mul, fp2_residue_conj, residue_xi2P1d3, residue_xi2P2d3, mu_eq, mul_pow,
      qfield_pow_p_pow_p, pow_right_comm kappa 4, mul_assoc]
  · refine fp2_eq_of_residue (fp2_mul_canonical _ _) (fp2_mul_canonical _ _) ?_
    simp only [fp2_residue_mul, fp2_residue_conj, residue_xiP1d3, residue_xiP2d3, mu_eq, mul_pow,
      qfield_pow_p_pow_p, pow_right_comm kappa 2, mul_assoc]
  · refine fp2_eq_of_residue (fp2_conj_canonical (fp2_conj_canonical hz)) hz ?_
    rw [fp2_residue_conj, fp2_residue_conj, qfield_pow_p_pow_p]

/-- The constants of FROBP2 are cube roots of unity, so they trade places in FROBP4 (R248). -/
theorem fp6_frobP2_frobP2 (a : Fp6) : Fp6.frobP2 Config.params (Fp6.frobP2 Config.params a) =
    Fp6.frobP4 Config.params a := by
  simp only [Fp6.frobP2, Fp6.frobP4, Fp6.mk.injEq]
  refine ⟨?_, ?_, trivial⟩
  · refine fp2_eq_of_residue (fp2_mul_canonical _ _) (fp2_mul_canonical _ _) ?_
    simp only [fp2_residue_mul, residue_xiP2d3, residue_xi2P2d3]
    linear_combination (Fp2.residue a.x * mu ^ 2) * mu_pow_six
  · refine fp2_eq_of_residue (fp2_mul_canonical _ _) (fp2_mul_canonical _ _) ?_
    simp only [fp2_residue_mul, residue_xiP2d3, residue_xi2P2d3]
    ring

theorem fp6_frobP4_frobP2 (ha : Fp6.Canonical Config.params a) :
    Fp6.frobP4 Config.params (Fp6.frobP2 Config.params a) = a := by
  obtain ⟨x, y, z⟩ := a
  obtain ⟨hx, hy, -⟩ := ha
  simp only [Fp6.frobP4, Fp6.frobP2, Fp6.mk.injEq]
  refine ⟨fp2_eq_of_residue (fp2_mul_canonical _ _) hx ?_,
    fp2_eq_of_residue (fp2_mul_canonical _ _) hy ?_, trivial⟩
  · rw [fp2_residue_mul, fp2_residue_mul, residue_xiP2d3, residue_xi2P2d3, mul_assoc, ← pow_add,
      mu_pow_six, mul_one]
  · rw [fp2_residue_mul, fp2_residue_mul, residue_xiP2d3, residue_xi2P2d3, mul_assoc, ← pow_add,
      mu_pow_six, mul_one]

theorem fp6_frobP2_frobP4 (ha : Fp6.Canonical Config.params a) :
    Fp6.frobP2 Config.params (Fp6.frobP4 Config.params a) = a := by
  rw [← fp6_frobP2_frobP2, fp6_frobP2_frobP2, fp6_frobP4_frobP2 ha]

end Compositions

/-! ### The Frobenius maps and the scaling by Fp2 -/

/-- FROB conjugates the factor of a scaling. -/
theorem fp6_frob_scale (s : Fp2) (a : Fp6) :
    Fp6.frob Config.params (Fp6.scale Config.params s a) =
      Fp6.scale Config.params (Fp2.conj Config.params s) (Fp6.frob Config.params a) := by
  refine fp6_eq_of_residue (fp6_frob_canonical (fp6_scale_canonical _ _)) (fp6_scale_canonical _ _) ?_
  rw [fp6_residue_frob, fp6_residue_scale, fp6_residue_scale, fp6_residue_frob, fp2_residue_conj,
    mul_pow, map_pow]

/-- FROBP2 leaves the factor of a scaling, as it fixes Fp2 (R247). -/
theorem fp6_frobP2_scale (s : Fp2) (a : Fp6) :
    Fp6.frobP2 Config.params (Fp6.scale Config.params s a) =
      Fp6.scale Config.params s (Fp6.frobP2 Config.params a) := by
  simp only [Fp6.frobP2, Fp6.scale, fp2_mul_assoc]

theorem fp6_scale_scale (s t : Fp2) (a : Fp6) :
    Fp6.scale Config.params s (Fp6.scale Config.params t a) =
      Fp6.scale Config.params (Fp2.mul Config.params s t) a := by
  simp only [Fp6.scale, fp2_mul_assoc]

/-- A scaling is known by the residue of its factor. -/
theorem fp6_scale_congr {s t : Fp2} (h : Fp2.residue s = Fp2.residue t) (a : Fp6) :
    Fp6.scale Config.params s a = Fp6.scale Config.params t a :=
  fp6_eq_of_residue (fp6_scale_canonical _ _) (fp6_scale_canonical _ _) <| by
    rw [fp6_residue_scale, fp6_residue_scale, h]

theorem fp6_scale_eq_neg {s : Fp2} (h : Fp2.residue s = -1) (a : Fp6) :
    Fp6.scale Config.params s a = Fp6.neg Config.params a :=
  fp6_eq_of_residue (fp6_scale_canonical _ _) (fp6_neg_canonical _) <| by
    rw [fp6_residue_scale, fp6_residue_neg, h, map_neg, map_one, neg_one_mul]

end Sys2Proof.Proofs
end

section
/-!
Fp12 as a quadratic extension of Z/p(i)[τ], and its Frobenius maps: FROB is the p-th power on the residues, and
the maps compose as those of Fp6 do, up to the factor of ω (R262, R286).
-/

namespace Sys2Proof.Proofs

open Sys2Proof Sys2Proof.Machine Sys2Proof.Laws QuadraticAlgebra

/-! ### Values of Fp12 and their residues -/

/-- The ring Z/p(i)[τ][ω] with ω² = τ (R260). -/
abbrev SexticRing : Type := QuadraticAlgebra CubicRing tau 0

/-- (x, y) as x·ω + y (R260). -/
noncomputable def Fp12.residue (a : Fp12) : SexticRing := ⟨Fp6.residue a.y, Fp6.residue a.x⟩

theorem fp12_residue_add (a b : Fp12) :
    Fp12.residue (Fp12.add Config.params a b) = Fp12.residue a + Fp12.residue b := by
  ext <;> simp [Fp12.residue, Fp12.add, fp6_residue_add]

/-- The product row of R261. -/
theorem fp12_residue_mul (a b : Fp12) :
    Fp12.residue (Fp12.mul Config.params a b) = Fp12.residue a * Fp12.residue b := by
  ext
  · simp [Fp12.residue, Fp12.mul, fp6_residue_add, fp6_residue_mul, fp6_residue_mulTau, mul_assoc]
  · simp [Fp12.residue, Fp12.mul, fp6_residue_add, fp6_residue_mul, add_comm]

theorem sexticRing_charP : CharP SexticRing Config.params.p :=
  have := cubicRing_charP
  charP_of_injective_algebraMap algebraMap_injective _

/-- FROB is the p-th power, with ω^p = κ·ω (R262, R278). -/
theorem fp12_residue_frob (a : Fp12) :
    Fp12.residue (Fp12.frob Config.params a) = Fp12.residue a ^ Config.params.p := by
  have := p_fact
  have := cubicRing_charP
  have hp := Config.params_valid.p_mod
  have factor : tau ^ (Config.params.p / 2) = cubicOf kappa := by
    rw [kappa, map_pow, ← tau_cube, ← pow_mul]
    congr 1
    omega
  rw [quadratic_pow_char (by omega), factor]
  simp only [Fp12.residue, Fp12.frob, fp6_residue_scale, fp6_residue_frob, residue_xiP1d6,
    mul_comm (cubicOf kappa)]

/-- An identity of canonical values of Fp12 follows from that of their residues. -/
theorem fp12_eq_of_residue {a b : Fp12} (ha : Fp12.Canonical Config.params a)
    (hb : Fp12.Canonical Config.params b) (h : Fp12.residue a = Fp12.residue b) : a = b := by
  obtain ⟨x, y⟩ := a
  obtain ⟨u, v⟩ := b
  obtain ⟨hy, hx⟩ := QuadraticAlgebra.ext_iff.mp h
  exact (Fp12.mk.injEq ..).mpr ⟨fp6_eq_of_residue ha.1 hb.1 hx, fp6_eq_of_residue ha.2 hb.2 hy⟩

/-! ### The laws of R286 -/

/-- FROB respects the sum (R286). -/
theorem fp12_frob_add (a b : Fp12) :
    Fp12.frob Config.params (Fp12.add Config.params a b) =
      Fp12.add Config.params (Fp12.frob Config.params a) (Fp12.frob Config.params b) := by
  have := p_fact
  have := sexticRing_charP
  refine fp12_eq_of_residue (fp12_frob_canonical (fp12_add_canonical _ _)) (fp12_add_canonical _ _) ?_
  simp only [fp12_residue_frob, fp12_residue_add, add_pow_char]

/-- FROB respects the product (R286). -/
theorem fp12_frob_mul (a b : Fp12) :
    Fp12.frob Config.params (Fp12.mul Config.params a b) =
      Fp12.mul Config.params (Fp12.frob Config.params a) (Fp12.frob Config.params b) := by
  refine fp12_eq_of_residue (fp12_frob_canonical (fp12_mul_canonical _ _)) (fp12_mul_canonical _ _) ?_
  simp only [fp12_residue_frob, fp12_residue_mul, mul_pow]

theorem fp12_frob_frob {a : Fp12} (ha : Fp12.Canonical Config.params a) :
    Fp12.frob Config.params (Fp12.frob Config.params a) = Fp12.frobP2 Config.params a := by
  obtain ⟨hx, hy⟩ := ha
  have factor : Fp2.residue (Fp2.mul Config.params Config.params.xiP1d6
      (Fp2.conj Config.params Config.params.xiP1d6)) = Fp2.residue Config.params.xiP2d6 := by
    rw [fp2_residue_mul, fp2_residue_conj, residue_xiP1d6, residue_xiP2d6, mu_eq, mul_comm]
  rw [Fp12.frob, Fp12.frob, Fp12.frobP2, fp6_frob_scale, fp6_scale_scale, fp6_scale_congr factor,
    fp6_frob_frob hx, fp6_frob_frob hy]

theorem fp12_frobP2_frobP2 (a : Fp12) :
    Fp12.frobP2 Config.params (Fp12.frobP2 Config.params a) = Fp12.frobP4 Config.params a := by
  have factor : Fp2.residue (Fp2.mul Config.params Config.params.xiP2d6 Config.params.xiP2d6) =
      Fp2.residue Config.params.xiP2d3 := by
    rw [fp2_residue_mul, residue_xiP2d6, residue_xiP2d3, sq]
  rw [Fp12.frobP2, Fp12.frobP2, Fp12.frobP4, fp6_frobP2_scale, fp6_scale_scale,
    fp6_scale_congr factor, fp6_frobP2_frobP2, fp6_frobP2_frobP2]

/-- ω^(p⁶) = μ³·ω = −ω, as ξ is no square (R286). -/
theorem fp12_frobP2_frobP4 {a : Fp12} (ha : Fp12.Canonical Config.params a) :
    Fp12.frobP2 Config.params (Fp12.frobP4 Config.params a) = Fp12.conj Config.params a := by
  obtain ⟨hx, hy⟩ := ha
  have factor : Fp2.residue (Fp2.mul Config.params Config.params.xiP2d6 Config.params.xiP2d3) =
      -1 := by
    rw [fp2_residue_mul, residue_xiP2d6, residue_xiP2d3, ← pow_succ', mu_cube]
  rw [Fp12.frobP2, Fp12.frobP4, Fp12.conj, fp6_frobP2_scale, fp6_scale_scale,
    fp6_scale_eq_neg factor, fp6_frobP2_frobP4 hx, fp6_frobP2_frobP4 hy]

/-- Settles O53: sums and products because FROB is the p-th power on the residues, the compositions by the
identities between the constants. -/
theorem frobeniusLaws : Obligations.FrobeniusLaws :=
  ⟨fun a b ha _ => ⟨fp6_frob_frob ha, fp6_frobP2_frobP2 a, fp6_frobP4_frobP2 ha, fp6_frob_add a b,
      fp6_frob_mul a b⟩,
    fun a b ha _ => ⟨fp12_frob_frob ha, fp12_frobP2_frobP2 a, fp12_frobP2_frobP4 ha,
      fp12_frob_add a b, fp12_frob_mul a b⟩⟩

end Sys2Proof.Proofs
end

section
/-!
Fp12 as a field: the laws of R285 are those of Z/p(i)[τ][ω], read on the residues. An element other than zero
has an inverse because τ is no square in Fp6, as its norm ξ is no square in Fp2 (R10, R263); and the Fp12
commands write what these functions compute.
-/

namespace Sys2Proof.Proofs

open Sys2Proof Sys2Proof.Machine Sys2Proof.Laws QuadraticAlgebra

/-! ### Zero, one, the negative and the conjugate -/

theorem fp6_residue_sub (a b : Fp6) :
    Fp6.residue (Fp6.sub Config.params a b) = Fp6.residue a - Fp6.residue b := by
  simp only [Fp6.residue, cubicElement_sub, Fp6.sub, fp2_residue_sub]

theorem fp12_residue_one : Fp12.residue (Fp12.one Config.params) = 1 := by
  ext
  · exact fp6_residue_one.trans QuadraticAlgebra.re_one.symm
  · exact fp6_residue_zero.trans QuadraticAlgebra.im_one.symm

theorem fp12_norm_canonical (a : Fp12) : Fp6.Canonical Config.params (Fp12.norm Config.params a) :=
  fp6_sub_canonical _ _

/-- norm(a) = y² − x²·τ (R261). -/
theorem fp6_residue_fp12_norm (a : Fp12) :
    Fp6.residue (Fp12.norm Config.params a) =
      Fp6.residue a.y * Fp6.residue a.y - tau * (Fp6.residue a.x * Fp6.residue a.x) := by
  rw [Fp12.norm, fp6_residue_sub, fp6_residue_mulTau, fp6_residue_mul, fp6_residue_mul]

/-! ### The norm of Fp6 over Fp2 -/

theorem fp6_norm_mul (a b : Fp6) :
    Fp2.residue (Fp6.norm Config.params (Fp6.mul Config.params a b)) =
      Fp2.residue (Fp6.norm Config.params a) * Fp2.residue (Fp6.norm Config.params b) := by
  simp only [Fp6.norm, Fp6.cofactor, Fp6.mul, fp2_residue_add, fp2_residue_sub, fp2_residue_mul,
    fp2_residue_mulXi]
  ring

/-- The norm of τ is ξ. -/
theorem fp6_norm_mulTau (a : Fp6) :
    Fp2.residue (Fp6.norm Config.params (Fp6.mulTau Config.params a)) =
      xiResidue * Fp2.residue (Fp6.norm Config.params a) := by
  simp only [Fp6.norm, Fp6.cofactor, Fp6.mulTau, fp2_residue_add, fp2_residue_sub,
    fp2_residue_mul, fp2_residue_mulXi]
  ring

/-- In a field where d is no square, u² = d·v² at zero alone. -/
theorem eq_zero_of_mul_self_eq {K : Type} [Field K] {d u v : K} (nonsquare : ¬ IsSquare d)
    (h : u * u = d * (v * v)) : u = 0 ∧ v = 0 := by
  have hv : v = 0 := by
    by_contra nonzero
    refine nonsquare ⟨u / v, ?_⟩
    field_simp
    linear_combination -h
  subst hv
  exact ⟨by simpa using h, rfl⟩

section Laws

variable {a : Fp12}

/-! ### The inverse (R263) -/

/-- Were the norm zero, y² = x²·τ would make the norms of x and y over Fp2 vanish, as ξ is no square. -/
theorem fp12_norm_ne_zero (ha : Fp12.Canonical Config.params a) (nonzero : a ≠ Fp12.zero) :
    Fp12.norm Config.params a ≠ Fp6.zero := by
  have := p_fact
  have := fp2_fact
  obtain ⟨x, y⟩ := a
  obtain ⟨hx, hy⟩ := ha
  intro norm
  have squares : Fp6.mul Config.params y y = Fp6.mulTau Config.params (Fp6.mul Config.params x x) := by
    refine fp6_eq_of_residue (fp6_mul_canonical _ _)
      (fp6_mulTau_canonical (fp6_mul_canonical _ _)) (sub_eq_zero.mp ?_)
    rw [← fp6_residue_sub]
    exact (congrArg Fp6.residue norm).trans fp6_residue_zero
  have norms := congrArg (fun v => Fp2.residue (Fp6.norm Config.params v)) squares
  simp only [fp6_norm_mulTau, fp6_norm_mul] at norms
  obtain ⟨normY, normX⟩ := eq_zero_of_mul_self_eq xi_not_isSquare norms
  have xZero : x = Fp6.zero := not_imp_not.mp (fp6_norm_ne_zero hx) normX
  have yZero : y = Fp6.zero := not_imp_not.mp (fp6_norm_ne_zero hy) normY
  exact nonzero (congrArg₂ Fp12.mk xZero yZero)

/-- A product with the conjugate is the norm (R285). -/
theorem fp12_mul_conj (a : Fp12) : Fp12.mul Config.params a (Fp12.conj Config.params a) =
    ⟨Fp6.zero, Fp12.norm Config.params a⟩ := by
  refine fp12_eq_of_residue (fp12_mul_canonical _ _) ⟨fp6_zero_canonical, fp12_norm_canonical a⟩ ?_
  rw [fp12_residue_mul]
  ext
  · simp only [Fp12.residue, Fp12.conj, fp6_residue_neg, fp6_residue_fp12_norm, re_mul]
    ring
  · simp only [Fp12.residue, Fp12.conj, fp6_residue_neg, fp6_residue_zero, im_mul]
    ring

/-- The inverse of R263 is the conjugate times the inverse of the norm. -/
theorem fp12_inv_eq (a : Fp12) : Fp12.inv Config.params a =
    Fp12.mul Config.params (Fp12.conj Config.params a)
      ⟨Fp6.zero, Fp6.inv Config.params (Fp12.norm Config.params a)⟩ := by
  refine fp12_eq_of_residue (fp12_inv_canonical _) (fp12_mul_canonical _ _) ?_
  rw [fp12_residue_mul]
  ext <;> simp [Fp12.residue, Fp12.inv, Fp12.conj, fp6_residue_mul, fp6_residue_zero]

/-! ### The laws of R285 -/

theorem fp12_add_comm (a b : Fp12) : Fp12.add Config.params a b = Fp12.add Config.params b a := by
  rw [Fp12.add, Fp12.add, fp6_add_comm a.x, fp6_add_comm a.y]

theorem fp12_add_assoc (a b d : Fp12) : Fp12.add Config.params (Fp12.add Config.params a b) d =
    Fp12.add Config.params a (Fp12.add Config.params b d) := by
  simp only [Fp12.add, fp6_add_assoc]

theorem fp12_add_zero (ha : Fp12.Canonical Config.params a) :
    Fp12.add Config.params a Fp12.zero = a := by
  obtain ⟨hx, hy⟩ := ha
  exact congrArg₂ Fp12.mk (fp6_add_zero hx) (fp6_add_zero hy)

theorem fp12_add_neg (a : Fp12) : Fp12.add Config.params a (Fp12.neg Config.params a) = Fp12.zero :=
  congrArg₂ Fp12.mk (fp6_add_neg a.x) (fp6_add_neg a.y)

theorem fp12_mul_comm (a b : Fp12) : Fp12.mul Config.params a b = Fp12.mul Config.params b a :=
  fp12_eq_of_residue (fp12_mul_canonical _ _) (fp12_mul_canonical _ _) <| by
    rw [fp12_residue_mul, fp12_residue_mul, mul_comm]

theorem fp12_mul_assoc (a b d : Fp12) : Fp12.mul Config.params (Fp12.mul Config.params a b) d =
    Fp12.mul Config.params a (Fp12.mul Config.params b d) :=
  fp12_eq_of_residue (fp12_mul_canonical _ _) (fp12_mul_canonical _ _) <| by
    simp only [fp12_residue_mul, mul_assoc]

theorem fp12_mul_add (a b d : Fp12) : Fp12.mul Config.params a (Fp12.add Config.params b d) =
    Fp12.add Config.params (Fp12.mul Config.params a b) (Fp12.mul Config.params a d) :=
  fp12_eq_of_residue (fp12_mul_canonical _ _) (fp12_add_canonical _ _) <| by
    simp only [fp12_residue_mul, fp12_residue_add, mul_add]

theorem fp12_mul_one (ha : Fp12.Canonical Config.params a) :
    Fp12.mul Config.params a (Fp12.one Config.params) = a :=
  fp12_eq_of_residue (fp12_mul_canonical _ _) ha <| by
    rw [fp12_residue_mul, fp12_residue_one, mul_one]

/-- a·conj(a)·norm(a)⁻¹ is one, the norm being an element of Fp6 other than zero. -/
theorem fp12_mul_inv (ha : Fp12.Canonical Config.params a) (nonzero : a ≠ Fp12.zero) :
    Fp12.mul Config.params a (Fp12.inv Config.params a) = Fp12.one Config.params := by
  have inverse := congrArg Fp6.residue
    (fp6_mul_inv (fp12_norm_canonical a) (fp12_norm_ne_zero ha nonzero))
  rw [fp6_residue_mul, fp6_residue_one] at inverse
  rw [fp12_inv_eq, ← fp12_mul_assoc, fp12_mul_conj]
  refine fp12_eq_of_residue (fp12_mul_canonical _ _) fp12_one_canonical ?_
  rw [fp12_residue_mul, fp12_residue_one]
  ext <;> simp [Fp12.residue, fp6_residue_zero, inverse, QuadraticAlgebra.re_one,
    QuadraticAlgebra.im_one]

end Laws

/-- Settles O51: sums by the laws of Fp6, products by those of Z/p(i)[τ][ω], read on the residues, and the
inverse because the norm of an element other than zero is not zero. -/
theorem fp12FieldLaws : Obligations.Fp12FieldLaws := fun a b d ha _ _ =>
  ⟨fp12_add_comm a b, fp12_mul_comm a b, fp12_add_assoc a b d, fp12_add_zero ha,
    fp12_add_canonical a b, fp12_mul_canonical a b, fp12_neg_canonical a, fp12_inv_canonical a,
    fp12_mul_assoc a b d, fp12_mul_add a b d, fp12_mul_one ha, fp12_add_neg a, rfl,
    fp12_mul_inv ha, fp12_mul_conj a⟩

/-! ### The commands -/

/-- Settles O23: each command writes its component formula, the Frobenius maps with the constants of R232 and
R262, INV the inverse of Fp12, and the exponentiations run the loop of R282. -/
theorem fp12Results : Obligations.Fp12Results := by
  intro rd ra rb kb s run hrd hra hrb hkb c put loop
  have two {i : Instr} := ready_of_two (i := i) run hrd hra
  have three {i : Instr} := ready_of_three (i := i) run hrd hra hrb
  have written {v w : Fp12} (h : v = w) : succeed (fp12File.write s rd v) = put w := by rw [h]; rfl
  have valid := Config.params_valid
  refine ⟨?binary, ?unary, ?exp, ?baseexp⟩
  case binary =>
    intro a b hreadA hreadB _ _
    refine ⟨?add, ?sub, ?mul⟩
    all_goals exact exec_success (three rfl) rfl (binary_of_read hreadA hreadB) rfl
  case unary =>
    intro a hread ha
    have read {op : Fp12 → Fp12} :
        unary fp12File fp12File op rd ra s = .success (fp12File.write s rd (op a)) :=
      unary_of_read hread
    refine ⟨?neg, ?sqr, ?conj, ?frob, ?frobP2, ?frobP4, fun nonzero => ⟨Fp12.inv c a,
      fp12_inv_canonical a, ?inv, (fp12_mul_comm _ _).trans (fp12_mul_inv ha nonzero)⟩⟩
    case neg => exact exec_success (two rfl) rfl read rfl
    case sqr =>
      have square : exec (.fp12Sqr rd ra) s = .next (put (Fp12.sqr c a)) :=
        exec_success (two rfl) rfl read rfl
      have product : exec (.fp12Mul rd ra ra) s = .next (put (Fp12.mul c a a)) :=
        exec_success (ready_of_three run hrd hra hra rfl) rfl (binary_of_read hread hread) rfl
      exact square.trans product.symm
    case conj => exact exec_success (two rfl) rfl read rfl
    case frob =>
      refine exec_success (two rfl) rfl read (written ?_)
      rw [Fp12.frob, valid.xiP1d6_eq]
    case frobP2 =>
      refine exec_success (two rfl) rfl read (written ?_)
      rw [Fp12.frobP2, valid.xiP2d6_eq]
    case frobP4 =>
      refine exec_success (two rfl) rfl read (written ?_)
      rw [Fp12.frobP4, valid.xiP2d3_eq]
    case inv => exact exec_success (two rfl) rfl (unaryNonzero_of_read hread nonzero) rfl
  case exp =>
    intro a e hreadA hreadK
    exact exec_success (ready_of_three run hrd hra hkb rfl) rfl
      (binary_of_read (srcB := kFile) hreadA hreadK) rfl
  case baseexp =>
    intro e hreadK
    exact exec_success (ready_of_two run hrd hkb rfl) rfl (unary_of_read (src := kFile) hreadK) rfl

end Sys2Proof.Proofs
end

section
/-!
Powers in Fp12: the loop of R282 computes the power of the residue, so the laws of exponentiation are those of
a commutative ring; FROB is the p-th power on the residues already, and CONJ is FROB six times (R286).
-/

namespace Sys2Proof.Proofs

open Sys2Proof Sys2Proof.Machine Sys2Proof.Laws

/-! ### The loop of R282 -/

/-- The loop of R282 computes a power, where `φ` carries its product to that of a monoid. -/
theorem map_msbLoop {α M : Type} [Monoid M] {mul : α → α → α} {one : α} (φ : α → M)
    (map_one : φ one = 1) (map_mul : ∀ a b, φ (mul a b) = φ a * φ b) (a : α) (e : ℕ) :
    φ (msbLoop mul one a e) = φ a ^ e := by
  refine msbLoop_rel (fun r m => φ r = φ a ^ m) _ _ _ e (by rw [map_one, pow_zero]) ?_
  intro r m bit hr
  have square : φ (mul r r) = φ a ^ (2 * m) := by rw [map_mul, hr, two_mul, pow_add]
  cases bit with
  | false => exact square
  | true => rw [msbRound, if_pos rfl, map_mul, square, Bool.toNat_true, pow_succ]

theorem fp12_residue_pow (a : Fp12) (e : ℕ) :
    Fp12.residue (Fp12.pow Config.params a e) = Fp12.residue a ^ e :=
  map_msbLoop Fp12.residue fp12_residue_one fp12_residue_mul a e

section Powers

variable {a b : Fp12}

/-- A canonical value is a power when its residue is. -/
theorem eq_fp12_pow_of_residue (hb : Fp12.Canonical Config.params b) {e : ℕ}
    (h : Fp12.residue b = Fp12.residue a ^ e) : b = Fp12.pow Config.params a e :=
  fp12_eq_of_residue hb (fp12_pow_canonical a e) (h.trans (fp12_residue_pow a e).symm)

/-! ### The laws of R286 -/

theorem fp12_pow_one (ha : Fp12.Canonical Config.params a) : Fp12.pow Config.params a 1 = a :=
  (eq_fp12_pow_of_residue ha (pow_one _).symm).symm

theorem fp12_pow_add (a : Fp12) (m n : ℕ) : Fp12.pow Config.params a (m + n) =
    Fp12.mul Config.params (Fp12.pow Config.params a m) (Fp12.pow Config.params a n) :=
  (eq_fp12_pow_of_residue (fp12_mul_canonical _ _) <| by
    rw [fp12_residue_mul, fp12_residue_pow, fp12_residue_pow, pow_add]).symm

theorem fp12_pow_mul (a : Fp12) (m n : ℕ) :
    Fp12.pow Config.params (Fp12.pow Config.params a m) n = Fp12.pow Config.params a (m * n) :=
  eq_fp12_pow_of_residue (fp12_pow_canonical _ _) <| by
    rw [fp12_residue_pow, fp12_residue_pow, pow_mul]

theorem fp12_mul_pow (a b : Fp12) (n : ℕ) : Fp12.pow Config.params (Fp12.mul Config.params a b) n =
    Fp12.mul Config.params (Fp12.pow Config.params a n) (Fp12.pow Config.params b n) :=
  fp12_eq_of_residue (fp12_pow_canonical _ _) (fp12_mul_canonical _ _) <| by
    simp only [fp12_residue_mul, fp12_residue_pow, mul_pow]

/-! ### The Frobenius maps as powers -/

theorem fp12_frob_eq_pow (ha : Fp12.Canonical Config.params a) :
    Fp12.frob Config.params a = Fp12.pow Config.params a Config.params.p :=
  eq_fp12_pow_of_residue (fp12_frob_canonical ha) (fp12_residue_frob a)

theorem fp12_frobP2_eq_pow (ha : Fp12.Canonical Config.params a) :
    Fp12.frobP2 Config.params a = Fp12.pow Config.params a (Config.params.p ^ 2) := by
  rw [← fp12_frob_frob ha, fp12_frob_eq_pow (fp12_frob_canonical ha), fp12_frob_eq_pow ha,
    fp12_pow_mul, sq]

/-- CONJ is FROBP2 three times (R286). -/
theorem fp12_conj_eq_pow (ha : Fp12.Canonical Config.params a) :
    Fp12.conj Config.params a = Fp12.pow Config.params a (Config.params.p ^ 6) := by
  have square := fp12_frobP2_canonical ha
  rw [← fp12_frobP2_frobP4 ha, ← fp12_frobP2_frobP2,
    fp12_frobP2_eq_pow (fp12_frobP2_canonical square), fp12_frobP2_eq_pow square,
    fp12_frobP2_eq_pow ha, fp12_pow_mul, fp12_pow_mul, ← pow_add, ← pow_add]

end Powers

/-- Settles O52: each law is one of powers in a commutative ring, read on the residues; the exponent 0 leaves
the loop no round. -/
theorem exponentLaws : Obligations.ExponentLaws := fun a b m n ha _ =>
  ⟨rfl, fp12_pow_one ha, fp12_pow_add a m n, fp12_pow_mul a m n, fp12_mul_pow a b n⟩

/-- Settles O54: FROB is the p-th power on the residues, and CONJ the third power of FROBP2. -/
theorem frobeniusIsPower : Obligations.FrobeniusIsPower := fun _ ha =>
  ⟨fp12_frob_eq_pow ha, fp12_conj_eq_pow ha⟩

end Sys2Proof.Proofs
end

section
/-!
Representatives are invisible (R322): states whose point registers have equal affine images are carried by
every command to such states. `SamePoint` relates quadruples with one affine image and `Tracks` says that a
way to a register file reads related values and takes related values; each shape of Machine/Shapes.lean then
carries related sources to related endings, if its operation does.
-/

namespace Sys2Proof.Machine

/-! ### States that differ in the point files -/

/-- `s` with other contents in the point files. -/
def withPoints (s : State) (g1 : Vector (Reg (Jac MontWord)) Config.nG1)
    (g2 : Vector (Reg (Jac Fp2)) Config.nG2) : State :=
  { s with g1, g2 }

/-- An operation that neither reads nor writes a point file. -/
def Oblivious (op : State → State) : Prop :=
  ∀ s g1 g2, op (withPoints s g1 g2) = withPoints (op s) g1 g2

/-- A reading that does not look at the point files. -/
def Unseen {α : Type} (look : State → α) : Prop :=
  ∀ s g1 g2, look (withPoints s g1 g2) = look s

section Related

variable {s t : State} (h : SameImages s t)
include h

theorem SameImages.eq_withPoints : t = withPoints s t.g1 t.g2 := h.rest

theorem SameImages.look {α : Type} {look : State → α} (unseen : Unseen look) : look t = look s := by
  rw [h.eq_withPoints, unseen]

theorem SameImages.apply {op : State → State} (hop : Oblivious op) : SameImages (op s) (op t) := by
  have image : op t = withPoints (op s) t.g1 t.g2 := by rw [← hop, ← h.eq_withPoints]
  have same : op s = withPoints (op s) s.g1 s.g2 := hop s s.g1 s.g2
  refine ⟨by rw [image]; rfl, fun f => ?_, fun f => ?_⟩
  · rw [image, same]
    exact h.g1_images f
  · rw [image, same]
    exact h.g2_images f

theorem SameImages.afterRequest : SameImages (afterRequest s) (afterRequest t) :=
  h.apply fun s g1 g2 => by
    simp only [Machine.afterRequest, withPoints]
    split <;> rfl

end Related

theorem SameImages.refl (s : State) : SameImages s s := ⟨rfl, fun _ => rfl, fun _ => rfl⟩

end Sys2Proof.Machine

namespace Sys2Proof.Proofs

open Sys2Proof Sys2Proof.Machine Sys2Proof.Laws

/-! ### Register files -/

/-- Two quadruples with one affine image. -/
abbrev SamePoint {F : Type} [DecidableEq F] (K : FieldOps F) (j l : Jac F) : Prop :=
  affineOf K l = affineOf K j

/-- Neither of two readings finds a valid register, or they find `R`-related values. -/
inductive BothRead {α : Type} (R : α → α → Prop) (a b : Option α) : Prop
  | neither (left : a = none) (right : b = none)
  | both {x y : α} (left : a = some x) (right : b = some y) (related : R x y)

theorem bothRead_refl {α : Type} (a : Option α) : BothRead Eq a a := by
  cases a with
  | none => exact .neither rfl rfl
  | some _ => exact .both rfl rfl rfl

theorem bothRead_of_map_eq {α β : Type} {φ : α → β} {a b : Option α} (h : b.map φ = a.map φ) :
    BothRead (fun x y => φ y = φ x) a b := by
  cases a with
  | none => exact .neither rfl (Option.map_eq_none_iff.mp h)
  | some x =>
    obtain ⟨y, hy, image⟩ := Option.map_eq_some_iff.mp h
    exact .both rfl hy image

/-- A way to a register file: where two states have the same images, it reads `R`-related values, and writing
`R`-related values keeps the images the same. -/
structure Tracks {α : Type} (file : RegFile α) (R : α → α → Prop) : Prop where
  read : ∀ {s t}, SameImages s t → ∀ f, BothRead R (file.read s f) (file.read t f)
  write : ∀ {s t}, SameImages s t → ∀ f {x y}, R x y →
    SameImages (file.write s f x) (file.write t f y)

/-- A file other than the point files holds the same in both states. -/
theorem tracks_of_oblivious {α : Type} {file : RegFile α} (unseen : ∀ f, Unseen fun s => file.read s f)
    (oblivious : ∀ f x, Oblivious fun s => file.write s f x) : Tracks file Eq where
  read {s t} h f := by
    have same : file.read t f = file.read s f := h.look (unseen f)
    rw [same]
    exact bothRead_refl _
  write h f x y hxy := by
    subst hxy
    exact h.apply (oblivious f x)

theorem fpFile_tracks : Tracks fpFile Eq :=
  tracks_of_oblivious (fun _ _ _ _ => rfl) fun _ _ _ _ _ => rfl

theorem fp2File_tracks : Tracks fp2File Eq :=
  tracks_of_oblivious (fun _ _ _ _ => rfl) fun _ _ _ _ _ => rfl

theorem fp6File_tracks : Tracks fp6File Eq :=
  tracks_of_oblivious (fun _ _ _ _ => rfl) fun _ _ _ _ _ => rfl

theorem fp12File_tracks : Tracks fp12File Eq :=
  tracks_of_oblivious (fun _ _ _ _ => rfl) fun _ _ _ _ _ => rfl

theorem kFile_tracks : Tracks kFile Eq :=
  tracks_of_oblivious (fun _ _ _ _ => rfl) fun _ _ _ _ _ => rfl

/-- Writing values with one image keeps the images of a file the same. -/
theorem map_readReg_writeReg {α β : Type} {n : Nat} {φ : α → β} {v w : Vector (Reg α) n} {x y : α}
    (h : ∀ f, (readReg w f).map φ = (readReg v f).map φ) (hxy : φ y = φ x) (rd f : Field6) :
    (readReg (writeReg w rd y) f).map φ = (readReg (writeReg v rd x) f).map φ := by
  by_cases hf : rd = f
  · subst hf
    by_cases inside : rd.toNat < n
    · rw [readReg_writeReg_same w y inside, readReg_writeReg_same v x inside]
      exact congrArg some hxy
    · have outside : ∀ u : Vector (Reg α) n, readReg u rd = none := fun u => by
        rw [readReg, Vector.getElem?_eq_none (by omega)]
      rw [outside, outside]
  · rw [readReg_writeReg_other w y hf, readReg_writeReg_other v x hf]
    exact h f

theorem g1File_tracks : Tracks g1File (SamePoint (fpOps Config.params)) where
  read h f := bothRead_of_map_eq (h.g1_images f)
  write h f _ y hxy :=
    ⟨congrArg (fun u => g1File.write u f y) h.rest,
      map_readReg_writeReg h.g1_images hxy f, h.g2_images⟩

theorem g2File_tracks : Tracks g2File (SamePoint (fp2Ops Config.params)) where
  read h f := bothRead_of_map_eq (h.g2_images f)
  write h f _ y hxy :=
    ⟨congrArg (fun u => g2File.write u f y) h.rest,
      h.g1_images, map_readReg_writeReg h.g2_images hxy f⟩

/-! ### Endings -/

/-- Two effects end alike: both succeed in states with the same images, or both take one fault, or both answer
one error in such states. -/
inductive SameEnding : Ending → Ending → Prop
  | success {s t : State} (h : SameImages s t) : SameEnding (.success s) (.success t)
  | fault (c : FaultKind) : SameEnding (.fault c) (.fault c)
  | error (k : ErrorKind) {s t : State} (h : SameImages s t) : SameEnding (.error k s) (.error k t)

/-- An effect on the value of a source; a source that is not valid is UninitOperand (R461). -/
def onSource {α : Type} (source : Option α) (effect : α → Ending) : Ending :=
  source.elim (.fault .uninitOperand) effect

theorem onSource_same {α : Type} {R : α → α → Prop} {a b : Option α} (r : BothRead R a b)
    {effect effect' : α → Ending} (he : ∀ {x y}, R x y → SameEnding (effect x) (effect' y)) :
    SameEnding (onSource a effect) (onSource b effect') := by
  cases r with
  | neither left right =>
    subst left right
    exact .fault _
  | both left right related =>
    subst left right
    exact he related

section Shapes

variable {α β γ : Type} {R : α → α → Prop} {Q : β → β → Prop} {P : γ → γ → Prop} {s t : State}
  {rd ra rb rc : Field6}

theorem constant_same {dst : RegFile α} (D : Tracks dst R) {v : α} (hv : R v v)
    (h : SameImages s t) : SameEnding (constant dst rd v s) (constant dst rd v t) :=
  .success (D.write h rd hv)

theorem unary_eq_onSource {src : RegFile α} {dst : RegFile β} {op : α → β} :
    unary src dst op rd ra s = onSource (src.read s ra) fun a => .success (dst.write s rd (op a)) := by
  rw [unary]
  cases src.read s ra <;> rfl

theorem unary_same {src : RegFile α} {dst : RegFile β} (A : Tracks src R) (D : Tracks dst Q)
    {op : α → β} (hop : ∀ {a a'}, R a a' → Q (op a) (op a')) (h : SameImages s t) :
    SameEnding (unary src dst op rd ra s) (unary src dst op rd ra t) := by
  rw [unary_eq_onSource, unary_eq_onSource]
  exact onSource_same (A.read h ra) fun ha => .success (D.write h rd (hop ha))

theorem unaryNonzero_eq_onSource [DecidableEq α] {src : RegFile α} {dst : RegFile β} {zero : α}
    {op : α → β} : unaryNonzero src dst zero op rd ra s = onSource (src.read s ra) fun a =>
      if a = zero then .fault .invertZero else .success (dst.write s rd (op a)) := by
  rw [unaryNonzero]
  cases src.read s ra <;> rfl

theorem unaryNonzero_same [DecidableEq α] {src : RegFile α} {dst : RegFile β} (A : Tracks src Eq)
    (D : Tracks dst Eq) {zero : α} {op : α → β} (h : SameImages s t) :
    SameEnding (unaryNonzero src dst zero op rd ra s) (unaryNonzero src dst zero op rd ra t) := by
  rw [unaryNonzero_eq_onSource, unaryNonzero_eq_onSource]
  refine onSource_same (A.read h ra) ?_
  rintro a _ rfl
  split
  · exact .fault _
  · exact .success (D.write h rd rfl)

theorem binary_eq_onSource {srcA : RegFile α} {srcB : RegFile β} {dst : RegFile γ}
    {op : α → β → γ} : binary srcA srcB dst op rd ra rb s = onSource (srcA.read s ra) fun a =>
      onSource (srcB.read s rb) fun b => .success (dst.write s rd (op a b)) := by
  rw [binary]
  cases srcA.read s ra <;> cases srcB.read s rb <;> rfl

theorem binary_same {srcA : RegFile α} {srcB : RegFile β} {dst : RegFile γ} (A : Tracks srcA R)
    (B : Tracks srcB Q) (D : Tracks dst P) {op : α → β → γ}
    (hop : ∀ {a a' b b'}, R a a' → Q b b' → P (op a b) (op a' b')) (h : SameImages s t) :
    SameEnding (binary srcA srcB dst op rd ra rb s) (binary srcA srcB dst op rd ra rb t) := by
  rw [binary_eq_onSource, binary_eq_onSource]
  exact onSource_same (A.read h ra) fun ha => onSource_same (B.read h rb) fun hb =>
    .success (D.write h rd (hop ha hb))

theorem ternary_eq_onSource {src : RegFile α} {dst : RegFile β} {op : α → α → α → β} :
    ternary src dst op rd ra rb rc s = onSource (src.read s ra) fun a =>
      onSource (src.read s rb) fun b => onSource (src.read s rc) fun c =>
        .success (dst.write s rd (op a b c)) := by
  rw [ternary]
  cases src.read s ra <;> cases src.read s rb <;> cases src.read s rc <;> rfl

theorem ternary_same {src : RegFile α} {dst : RegFile β} (A : Tracks src Eq) (D : Tracks dst Eq)
    {op : α → α → α → β} (h : SameImages s t) :
    SameEnding (ternary src dst op rd ra rb rc s) (ternary src dst op rd ra rb rc t) := by
  rw [ternary_eq_onSource, ternary_eq_onSource]
  exact onSource_same (A.read h ra) fun ha => onSource_same (A.read h rb) fun hb =>
    onSource_same (A.read h rc) fun hc => .success (D.write h rd (by rw [ha, hb, hc]))

/-! The flag RES. -/

theorem setRes_same (h : SameImages s t) {b b' : Bool} (hb : b' = b) :
    SameEnding (.success (setRes s b)) (.success (setRes t b')) :=
  hb ▸ .success (h.apply (op := fun u => setRes u b') fun _ _ _ => rfl)

theorem test_eq_onSource {src : RegFile α} {holds : α → Bool} :
    test src holds ra s = onSource (src.read s ra) fun a => .success (setRes s (holds a)) := by
  rw [test]
  cases src.read s ra <;> rfl

theorem test_same {src : RegFile α} (A : Tracks src R) {holds : α → Bool}
    (hh : ∀ {a a'}, R a a' → holds a' = holds a) (h : SameImages s t) :
    SameEnding (test src holds ra s) (test src holds ra t) := by
  rw [test_eq_onSource, test_eq_onSource]
  exact onSource_same (A.read h ra) fun ha => setRes_same h (hh ha)

theorem test2_eq_onSource {src : RegFile α} {holds : α → α → Bool} :
    test2 src holds ra rb s = onSource (src.read s ra) fun a => onSource (src.read s rb) fun b =>
      .success (setRes s (holds a b)) := by
  rw [test2]
  cases src.read s ra <;> cases src.read s rb <;> rfl

theorem test2_same {src : RegFile α} (A : Tracks src Eq) {holds : α → α → Bool}
    (h : SameImages s t) : SameEnding (test2 src holds ra rb s) (test2 src holds ra rb t) := by
  rw [test2_eq_onSource, test2_eq_onSource]
  exact onSource_same (A.read h ra) fun ha => onSource_same (A.read h rb) fun hb =>
    setRes_same h (by rw [ha, hb])

/-! Encoders and decoders. -/

/-- The room check looks at the window alone (R82). -/
theorem withRoom_same {len : Nat} {e e' : Ending} (he : SameEnding e e') (h : SameImages s t) :
    SameEnding (withRoom len s e) (withRoom len t e') := by
  rw [withRoom, withRoom, h.look (look := windowEnd) fun _ _ _ => rfl]
  split
  · exact .fault _
  · split
    · exact .fault _
    · exact he

/-- The window check looks at the window and at DBUF alone (R82). -/
theorem withWindow_same {len : Nat} {effect effect' : List Byte → Ending}
    (he : ∀ bytes, SameEnding (effect bytes) (effect' bytes)) (h : SameImages s t) :
    SameEnding (withWindow len s effect) (withWindow len t effect') := by
  rw [withWindow, withWindow, h.look (look := windowEnd) fun _ _ _ => rfl,
    h.look (look := State.blen) fun _ _ _ => rfl, h.look (look := State.bptr) fun _ _ _ => rfl,
    h.look (look := State.dbuf) fun _ _ _ => rfl]
  split
  · exact .fault _
  · split
    · exact .error _ h
    · cases memReadRange s.dbuf s.bptr.toNat len with
      | none => exact .fault _
      | some bytes => exact he bytes

theorem append_same {bytes bytes' : List Byte} (hb : bytes' = bytes) (h : SameImages s t) :
    SameEnding (.success (append bytes s)) (.success (append bytes' t)) :=
  hb ▸ .success (h.apply (op := append bytes') fun _ _ _ => rfl)

theorem consume_same {len : Nat} (h : SameImages s t) :
    SameEnding (.success (consume len s)) (.success (consume len t)) :=
  .success (h.apply fun _ _ _ => rfl)

theorem encodeReg_eq_onSource {src : RegFile α} {len : Nat} {bytes : α → List Byte} :
    encodeReg src len bytes ra s = onSource (src.read s ra) fun a =>
      withRoom len s (.success (append (bytes a) s)) := by
  rw [encodeReg]
  cases src.read s ra <;> rfl

theorem encodeReg_same {src : RegFile α} (A : Tracks src R) {len : Nat} {bytes : α → List Byte}
    (hb : ∀ {a a'}, R a a' → bytes a' = bytes a) (h : SameImages s t) :
    SameEnding (encodeReg src len bytes ra s) (encodeReg src len bytes ra t) := by
  rw [encodeReg_eq_onSource, encodeReg_eq_onSource]
  exact onSource_same (A.read h ra) fun ha => withRoom_same (append_same (hb ha) h) h

theorem storeScalar_eq_onSource : storeScalar ra s = onSource (kFile.read s ra) fun e =>
    withRoom 32 s (if 2 ^ 256 ≤ e then .fault .scalarRange else .success (append (bytesBE e 32) s)) := by
  rw [storeScalar]
  cases kFile.read s ra <;> rfl

theorem storeScalar_same (h : SameImages s t) :
    SameEnding (storeScalar ra s) (storeScalar ra t) := by
  rw [storeScalar_eq_onSource, storeScalar_eq_onSource]
  refine onSource_same (kFile_tracks.read h ra) ?_
  rintro e _ rfl
  refine withRoom_same ?_ h
  split
  · exact .fault _
  · exact append_same rfl h

theorem decodeReg_same {dst : RegFile α} (D : Tracks dst Eq) {len : Nat} {value : List Byte → α}
    (h : SameImages s t) :
    SameEnding (decodeReg dst len value rd s) (decodeReg dst len value rd t) :=
  withWindow_same (fun _ => consume_same (D.write h rd rfl)) h

end Shapes

/-! ### The point commands -/

/-- A point group whose file tracks affine images and whose draw does not look at the point files. -/
structure TracksPoints {F : Type} [DecidableEq F] (G : PointGroup F) : Prop
    extends Tracks G.file (SamePoint G.ops) where
  draw : Unseen G.draw

theorem g1Group_tracks : TracksPoints g1Group := ⟨g1File_tracks, fun _ _ _ => rfl⟩

theorem g2Group_tracks : TracksPoints g2Group := ⟨g2File_tracks, fun _ _ _ => rfl⟩

section PointShapes

variable {F : Type} [DecidableEq F] {G : PointGroup F} {s : State} {rd ra rb kb : Field6}

theorem pointUnary_eq_onSource {op : Aff F → Aff F} : pointUnary G op rd ra s =
    onSource (G.file.read s ra) fun p => .success (writePoint G rd (op (affineOf G.ops p)) s) := by
  rw [pointUnary]
  cases G.file.read s ra <;> rfl

theorem pointAdd_eq_onSource : pointAdd G rd ra rb s = onSource (G.file.read s ra) fun p =>
    onSource (G.file.read s rb) fun q =>
      if p.z = G.ops.zero then .success (G.file.write s rd q)
      else if q.z = G.ops.zero then .success (G.file.write s rd p)
      else .success (writePoint G rd (Aff.add G.ops (affineOf G.ops p) (affineOf G.ops q)) s) := by
  rw [pointAdd]
  cases G.file.read s ra <;> cases G.file.read s rb <;> rfl

theorem pointMul_eq_onSource : pointMul G rd ra kb s = onSource (G.file.read s ra) fun p =>
    onSource (kFile.read s kb) fun e =>
      .success (writePoint G rd (Aff.smul G.ops e (affineOf G.ops p)) s) := by
  rw [pointMul]
  cases G.file.read s ra <;> cases kFile.read s kb <;> rfl

theorem pointBaseMul_eq_onSource {base : Aff F} : pointBaseMul G base rd kb s =
    onSource (kFile.read s kb) fun e => .success (writePoint G rd (Aff.smul G.ops e base) s) := by
  rw [pointBaseMul]
  cases kFile.read s kb <;> rfl

end PointShapes

section PointCommands

variable {F : Type} [DecidableEq F] {K : FieldOps F} {j l : Jac F}

/-- Whether Z = 0 shows in the affine image (R25). -/
theorem affineOf_eq_inf_iff : affineOf K j = .inf ↔ j.z = K.zero := by
  unfold affineOf
  split <;> simp [*]

theorem SamePoint.z_eq_zero_iff (h : SamePoint K j l) : l.z = K.zero ↔ j.z = K.zero := by
  rw [← affineOf_eq_inf_iff, ← affineOf_eq_inf_iff, h]

/-- AFF copies both quadruples, or answers one and the same (R315, R345). -/
theorem SamePoint.normalise (h : SamePoint K j l) : SamePoint K (Jac.normalise K j) (Jac.normalise K l) := by
  rw [Jac.normalise, Jac.normalise, h]
  cases affineOf K j with
  | inf => exact h
  | pt x y => rfl

variable {G : PointGroup F} (T : TracksPoints G) {s t : State} {rd ra rb kb : Field6} {base : Aff F}
  {P P' : Aff F}
include T

theorem writePoint_same (hP : P' = P) (h : SameImages s t) :
    SameImages (writePoint G rd P s) (writePoint G rd P' t) := by
  rw [writePoint, writePoint, hP, h.look T.draw, h.look (look := State.draws) fun _ _ _ => rfl]
  exact (T.write h rd rfl).apply (op := fun u => { u with draws := s.draws + 1 }) fun _ _ _ => rfl

theorem pointUnary_same {op : Aff F → Aff F} (h : SameImages s t) :
    SameEnding (pointUnary G op rd ra s) (pointUnary G op rd ra t) := by
  rw [pointUnary_eq_onSource, pointUnary_eq_onSource]
  exact onSource_same (T.read h ra) fun hp => .success (writePoint_same T (by rw [hp]) h)

/-- ADD copies on both sides, or writes the sum of the same images on both sides (R312, R342). -/
theorem pointAdd_same (h : SameImages s t) :
    SameEnding (pointAdd G rd ra rb s) (pointAdd G rd ra rb t) := by
  rw [pointAdd_eq_onSource, pointAdd_eq_onSource]
  refine onSource_same (T.read h ra) fun hp => onSource_same (T.read h rb) fun hq => ?_
  simp only [hp.z_eq_zero_iff, hq.z_eq_zero_iff]
  split
  · exact .success (T.write h rd hq)
  · split
    · exact .success (T.write h rd hp)
    · exact .success (writePoint_same T (by rw [hp, hq]) h)

theorem pointMul_same (h : SameImages s t) :
    SameEnding (pointMul G rd ra kb s) (pointMul G rd ra kb t) := by
  rw [pointMul_eq_onSource, pointMul_eq_onSource]
  exact onSource_same (T.read h ra) fun hp => onSource_same (kFile_tracks.read h kb) fun hk =>
    .success (writePoint_same T (by rw [hp, hk]) h)

theorem pointBaseMul_same (h : SameImages s t) :
    SameEnding (pointBaseMul G base rd kb s) (pointBaseMul G base rd kb t) := by
  rw [pointBaseMul_eq_onSource, pointBaseMul_eq_onSource]
  exact onSource_same (kFile_tracks.read h kb) fun hk => .success (writePoint_same T (by rw [hk]) h)

/-- Both requests to the entropy source get one answer (log 9, log 11). -/
theorem pointRandom_same (h : SameImages s t) :
    SameEnding (pointRandom G base rd kb s) (pointRandom G base rd kb t) := by
  rw [pointRandom, pointRandom, h.look (look := entropyAnswer) fun _ _ _ => rfl]
  cases entropyAnswer s with
  | fail => exact .error _ h.afterRequest
  | scalar r => exact .success (writePoint_same T rfl (kFile_tracks.write h.afterRequest kb rfl))

theorem pointDecode_same {len : Nat} {allZero : List Byte → Bool} {coords : List Byte → F × F}
    (h : SameImages s t) : SameEnding (pointDecode G len allZero coords rd s)
      (pointDecode G len allZero coords rd t) := by
  refine withWindow_same (fun bytes => ?_) h
  dsimp only
  split
  · exact consume_same (T.write h rd rfl)
  · split
    · exact consume_same (T.write h rd rfl)
    · exact .error _ h

end PointCommands

/-! ### PAIRCHK -/

/-- A run of registers is its first register and the rest; six bits number the registers. -/
theorem readRun_succ {α : Type} {n : Nat} (v : Vector (Reg α) n) {start : Nat} (m : Nat)
    (number : start < 64) : readRun v start (m + 1) =
      (readReg v (BitVec.ofNat 6 start)).bind fun x => (readRun v (start + 1) m).map (x :: ·) := by
  rw [readRun, readReg, BitVec.toNat_ofNat, Nat.mod_eq_of_lt number]
  cases v[start]? with
  | none => rfl
  | some r => cases readRun v (start + 1) m <;> cases hr : r.valid <;> simp [hr]

/-- Runs of registers with the same images read as lists with the same images. -/
theorem readRun_both {α β : Type} {n : Nat} {φ : α → β} {v w : Vector (Reg α) n}
    (h : ∀ f, (readReg w f).map φ = (readReg v f).map φ) : ∀ {m start : Nat}, start + m ≤ 64 →
    BothRead (fun xs ys => ys.map φ = xs.map φ) (readRun v start m) (readRun w start m)
  | 0, _, _ => .both rfl rfl rfl
  | m + 1, start, bound => by
    rw [readRun_succ v m (by omega), readRun_succ w m (by omega)]
    cases bothRead_of_map_eq (h (BitVec.ofNat 6 start)) with
    | neither left right => exact .neither (by rw [left]; rfl) (by rw [right]; rfl)
    | both left right image =>
      rw [left, right]
      cases readRun_both h (m := m) (start := start + 1) (by omega) with
      | neither left right => exact .neither (by rw [left]; rfl) (by rw [right]; rfl)
      | both left right images =>
        rw [left, right]
        exact .both rfl rfl (by rw [List.map_cons, List.map_cons, image, images])

/-- PAIRCHK works on affine images (R408). -/
theorem pairCheck_same {ra rb : Field6} {s t : State} (h : SameImages s t) :
    SameEnding (pairCheck ra rb s) (pairCheck ra rb t) := by
  rw [pairCheck, pairCheck, h.look (look := State.lena) fun _ _ _ => rfl,
    h.look (look := State.lenb) fun _ _ _ => rfl]
  split
  · split
    · exact .fault _
    next inside =>
      obtain ⟨inside1, inside2⟩ := not_or.mp inside
      have bound : Config.nG1 ≤ 64 ∧ Config.nG2 ≤ 64 := by decide
      cases readRun_both h.g1_images (m := s.lena.toNat) (start := ra.toNat) (by omega) with
      | neither left right =>
        rw [left, right]
        exact .fault _
      | both left right images1 =>
        rw [left, right]
        cases readRun_both h.g2_images (m := s.lena.toNat) (start := rb.toNat) (by omega) with
        | neither left right =>
          rw [left, right]
          exact .fault _
        | both left right images2 =>
          rw [left, right]
          refine setRes_same h ?_
          rw [show g1Group.ops = fpOps Config.params from rfl,
            show g2Group.ops = fp2Ops Config.params from rfl, images1, images2]
  · exact .fault _

end Sys2Proof.Proofs
end

section
/-!
Representatives are invisible to every command and to every access of the host, so to every step (R322).
-/

namespace Sys2Proof.Proofs

open Sys2Proof Sys2Proof.Machine Sys2Proof.Laws

/-- What the first outcome answers the second answers too, but for the representatives of points. -/
def SameOutcome (o o' : Host.Outcome State Fault Refusal) : Prop :=
  ∀ s', o = .next s' → ∃ t', o' = .next t' ∧ SameImages s' t'

theorem sameOutcome_next {s t : State} (h : SameImages s t) : SameOutcome (.next s) (.next t) := by
  rintro _ ⟨⟩
  exact ⟨t, rfl, h⟩

theorem sameOutcome_fault (e e' : Fault) : SameOutcome (.fault e) (.fault e') := nofun

section Commands

variable {s t : State}

theorem runCommand_same {i : Instr} {e e' : Ending} (he : SameEnding e e') (h : SameImages s t) :
    SameOutcome (runCommand i s e) (runCommand i t e') := by
  rw [runCommand, runCommand, h.look (look := halted) fun _ _ _ => rfl]
  split
  · exact sameOutcome_next h
  · split
    · cases he with
      | success hu => exact sameOutcome_next (hu.apply (op := succeed) fun _ _ _ => rfl)
      | fault c => exact sameOutcome_next (h.apply (op := takeFault c _) fun _ _ _ => rfl)
      | error k hu => exact sameOutcome_next (hu.apply (op := takeError k) fun _ _ _ => rfl)
    · exact sameOutcome_next (h.apply (op := takeFault _ _) fun _ _ _ => rfl)

/-- Every command is the common frame around an effect, and its effects in the two states end alike: the
commands of the tower and of the scalars read what no representative touches, the point commands work on
affine images. -/
theorem exec_effect_same (h : SameImages s t) : ∀ i : Instr, ∃ e e',
    exec i s = runCommand i s e ∧ exec i t = runCommand i t e' ∧ SameEnding e e'
  -- Fp
  | .fpAdd .. | .fpSub .. | .fpMul .. =>
    ⟨_, _, rfl, rfl, binary_same fpFile_tracks fpFile_tracks fpFile_tracks (congrArg₂ _) h⟩
  | .fpNeg .. | .fpSqr .. | .fpMov .. =>
    ⟨_, _, rfl, rfl, unary_same fpFile_tracks fpFile_tracks (congrArg _) h⟩
  | .fpInv .. => ⟨_, _, rfl, rfl, unaryNonzero_same fpFile_tracks fpFile_tracks h⟩
  | .fpZero .. | .fpOne .. => ⟨_, _, rfl, rfl, constant_same fpFile_tracks rfl h⟩
  | .fpIszero .. | .fpIsone .. =>
    ⟨_, _, rfl, rfl, test_same fpFile_tracks (fun e => e ▸ rfl) h⟩
  | .fpEq .. => ⟨_, _, rfl, rfl, test2_same fpFile_tracks h⟩
  | .fpEnc .. => ⟨_, _, rfl, rfl, encodeReg_same fpFile_tracks (fun e => e ▸ rfl) h⟩
  | .fpDec .. => ⟨_, _, rfl, rfl, decodeReg_same fpFile_tracks h⟩
  | .fp2Get .. => ⟨_, _, rfl, rfl, unary_same fp2File_tracks fpFile_tracks (congrArg _) h⟩
  -- Fp2
  | .fp2Add .. | .fp2Sub .. | .fp2Mul .. =>
    ⟨_, _, rfl, rfl, binary_same fp2File_tracks fp2File_tracks fp2File_tracks (congrArg₂ _) h⟩
  | .fp2Neg .. | .fp2Sqr .. | .fp2Mov .. | .fp2Mulxi .. =>
    ⟨_, _, rfl, rfl, unary_same fp2File_tracks fp2File_tracks (congrArg _) h⟩
  | .fp2Inv .. => ⟨_, _, rfl, rfl, unaryNonzero_same fp2File_tracks fp2File_tracks h⟩
  | .fp2Zero .. | .fp2One .. => ⟨_, _, rfl, rfl, constant_same fp2File_tracks rfl h⟩
  | .fp2Iszero .. | .fp2Isone .. =>
    ⟨_, _, rfl, rfl, test_same fp2File_tracks (fun e => e ▸ rfl) h⟩
  | .fp2Eq .. => ⟨_, _, rfl, rfl, test2_same fp2File_tracks h⟩
  | .fp2Enc .. => ⟨_, _, rfl, rfl, encodeReg_same fp2File_tracks (fun e => e ▸ rfl) h⟩
  | .fp2Dec .. => ⟨_, _, rfl, rfl, decodeReg_same fp2File_tracks h⟩
  | .fp2Pack .. =>
    ⟨_, _, rfl, rfl, binary_same fpFile_tracks fpFile_tracks fp2File_tracks (congrArg₂ _) h⟩
  | .fp6Get .. => ⟨_, _, rfl, rfl, unary_same fp6File_tracks fp2File_tracks (congrArg _) h⟩
  -- Fp6
  | .fp6Add .. | .fp6Sub .. | .fp6Mul .. =>
    ⟨_, _, rfl, rfl, binary_same fp6File_tracks fp6File_tracks fp6File_tracks (congrArg₂ _) h⟩
  | .fp6Neg .. | .fp6Sqr .. | .fp6Mov .. | .fp6Frob .. | .fp6Frobp2 .. | .fp6Frobp4 .. | .fp6Multau .. =>
    ⟨_, _, rfl, rfl, unary_same fp6File_tracks fp6File_tracks (congrArg _) h⟩
  | .fp6Inv .. => ⟨_, _, rfl, rfl, unaryNonzero_same fp6File_tracks fp6File_tracks h⟩
  | .fp6Zero .. | .fp6One .. => ⟨_, _, rfl, rfl, constant_same fp6File_tracks rfl h⟩
  | .fp6Iszero .. | .fp6Isone .. =>
    ⟨_, _, rfl, rfl, test_same fp6File_tracks (fun e => e ▸ rfl) h⟩
  | .fp6Eq .. => ⟨_, _, rfl, rfl, test2_same fp6File_tracks h⟩
  | .fp6Pack .. => ⟨_, _, rfl, rfl, ternary_same fp2File_tracks fp6File_tracks h⟩
  | .fp12Get .. => ⟨_, _, rfl, rfl, unary_same fp12File_tracks fp6File_tracks (congrArg _) h⟩
  -- Fp12 and GT
  | .fp12Add .. | .fp12Sub .. | .fp12Mul .. =>
    ⟨_, _, rfl, rfl, binary_same fp12File_tracks fp12File_tracks fp12File_tracks (congrArg₂ _) h⟩
  | .fp12Neg .. | .fp12Sqr .. | .fp12Mov .. | .fp12Frob .. | .fp12Frobp2 .. | .fp12Frobp4 ..
  | .fp12Conj .. => ⟨_, _, rfl, rfl, unary_same fp12File_tracks fp12File_tracks (congrArg _) h⟩
  | .fp12Inv .. | .finalexp .. =>
    ⟨_, _, rfl, rfl, unaryNonzero_same fp12File_tracks fp12File_tracks h⟩
  | .fp12Zero .. | .fp12One .. => ⟨_, _, rfl, rfl, constant_same fp12File_tracks rfl h⟩
  | .fp12Iszero .. | .fp12Isone .. =>
    ⟨_, _, rfl, rfl, test_same fp12File_tracks (fun e => e ▸ rfl) h⟩
  | .fp12Eq .. => ⟨_, _, rfl, rfl, test2_same fp12File_tracks h⟩
  | .fp12Enc .. => ⟨_, _, rfl, rfl, encodeReg_same fp12File_tracks (fun e => e ▸ rfl) h⟩
  | .fp12Dec .. => ⟨_, _, rfl, rfl, decodeReg_same fp12File_tracks h⟩
  | .fp12Pack .. =>
    ⟨_, _, rfl, rfl, binary_same fp6File_tracks fp6File_tracks fp12File_tracks (congrArg₂ _) h⟩
  | .fp12Exp .. =>
    ⟨_, _, rfl, rfl, binary_same fp12File_tracks kFile_tracks fp12File_tracks (congrArg₂ _) h⟩
  | .gtBaseexp .. => ⟨_, _, rfl, rfl, unary_same kFile_tracks fp12File_tracks (congrArg _) h⟩
  | .miller .. | .pair .. => ⟨_, _, rfl, rfl, binary_same g1File_tracks g2File_tracks fp12File_tracks
      (fun hp hq => (congrArg₂ _ hp hq).symm) h⟩
  -- scalars
  | .kLd kd => ⟨_, _, rfl, rfl, by
      rw [h.look (look := State.blen) fun _ _ _ => rfl]
      exact decodeReg_same kFile_tracks h⟩
  | .kSt .. => ⟨_, _, rfl, rfl, storeScalar_same h⟩
  | .kLdi .. => ⟨_, _, rfl, rfl, constant_same kFile_tracks rfl h⟩
  | .kMov .. => ⟨_, _, rfl, rfl, unary_same kFile_tracks kFile_tracks (congrArg _) h⟩
  -- points
  | .g1Add .. => ⟨_, _, rfl, rfl, pointAdd_same g1Group_tracks h⟩
  | .g2Add .. => ⟨_, _, rfl, rfl, pointAdd_same g2Group_tracks h⟩
  | .g1Dbl .. | .g1Neg .. => ⟨_, _, rfl, rfl, pointUnary_same g1Group_tracks h⟩
  | .g2Dbl .. | .g2Neg .. => ⟨_, _, rfl, rfl, pointUnary_same g2Group_tracks h⟩
  | .g1Mul .. => ⟨_, _, rfl, rfl, pointMul_same g1Group_tracks h⟩
  | .g2Mul .. => ⟨_, _, rfl, rfl, pointMul_same g2Group_tracks h⟩
  | .g1Basemul .. => ⟨_, _, rfl, rfl, pointBaseMul_same g1Group_tracks h⟩
  | .g2Basemul .. => ⟨_, _, rfl, rfl, pointBaseMul_same g2Group_tracks h⟩
  | .g1Aff .. => ⟨_, _, rfl, rfl, unary_same g1File_tracks g1File_tracks (fun hp => hp.normalise) h⟩
  | .g2Aff .. => ⟨_, _, rfl, rfl, unary_same g2File_tracks g2File_tracks (fun hp => hp.normalise) h⟩
  | .g1Oncurve .. => ⟨_, _, rfl, rfl, test_same g1File_tracks (fun hp => congrArg _ hp) h⟩
  | .g2Oncurve .. => ⟨_, _, rfl, rfl, test_same g2File_tracks (fun hp => congrArg _ hp) h⟩
  | .g1Inf .. => ⟨_, _, rfl, rfl, constant_same g1File_tracks rfl h⟩
  | .g2Inf .. => ⟨_, _, rfl, rfl, constant_same g2File_tracks rfl h⟩
  | .g1Mov .. => ⟨_, _, rfl, rfl, unary_same g1File_tracks g1File_tracks id h⟩
  | .g2Mov .. => ⟨_, _, rfl, rfl, unary_same g2File_tracks g2File_tracks id h⟩
  | .g1Marshal .. => ⟨_, _, rfl, rfl, encodeReg_same g1File_tracks (fun hp => congrArg _ hp) h⟩
  | .g2Marshal .. => ⟨_, _, rfl, rfl, encodeReg_same g2File_tracks (fun hp => congrArg _ hp) h⟩
  | .g1Unmarshal .. => ⟨_, _, rfl, rfl, pointDecode_same g1Group_tracks h⟩
  | .g2Unmarshal .. => ⟨_, _, rfl, rfl, pointDecode_same g2Group_tracks h⟩
  | .g1Random .. => ⟨_, _, rfl, rfl, pointRandom_same g1Group_tracks h⟩
  | .g2Random .. => ⟨_, _, rfl, rfl, pointRandom_same g2Group_tracks h⟩
  | .pairchk .. => ⟨_, _, rfl, rfl, pairCheck_same h⟩

theorem exec_same (i : Instr) (h : SameImages s t) : SameOutcome (exec i s) (exec i t) := by
  obtain ⟨e, e', hs, ht, he⟩ := exec_effect_same h i
  rw [hs, ht]
  exact runCommand_same he h

/-! ### The host -/

theorem command_same (w : Word32) (h : SameImages s t) :
    SameOutcome (command w s) (command w t) := by
  rw [command, command, h.look (look := halted) fun _ _ _ => rfl]
  split
  · exact sameOutcome_next h
  · cases decode w with
    | ok i => exact exec_same i h
    | error _ => exact sameOutcome_next (h.apply (op := takeFault _ _) fun _ _ _ => rfl)

theorem writeControl_same (v : Word32) (n : Nat) (h : SameImages s t) :
    SameImages (writeControl s v n) (writeControl t v n) :=
  h.apply (op := fun u => writeControl u v n) fun s g1 g2 => by
    simp only [writeControl]
    split <;> rfl

theorem readControl_unseen (n : Nat) : Unseen fun s => readControl s n := fun s g1 g2 => by
  simp only [readControl]
  split <;> rfl

theorem readBuffer_same (j : Nat) (h : SameImages s t) :
    SameImages (readBuffer s j) (readBuffer t j) :=
  h.apply (op := fun u => readBuffer u j) fun s g1 g2 => by
    simp only [readBuffer, withPoints]
    split <;> rfl

theorem access_same (a : HostAction) (h : SameImages s t) :
    SameOutcome (access a s) (access a t) := by
  cases a with
  | writeReg n v =>
    rw [access, access]
    split
    · exact command_same v h
    · exact sameOutcome_next (writeControl_same v n h)
  | readReg n =>
    have word : readControl t n = readControl s n := h.look (readControl_unseen n)
    rw [access, access, word]
    exact sameOutcome_next (h.apply (op := fun u => { u with hostData := _ }) fun _ _ _ => rfl)
  | writeByte j b =>
    rw [access, access]
    split
    · exact sameOutcome_next
        (h.apply (op := fun u => { u with dbuf := memWrite u.dbuf j b }) fun _ _ _ => rfl)
    · exact sameOutcome_fault _ _
  | readByte j =>
    rw [access, access]
    split
    · exact sameOutcome_next (readBuffer_same j h)
    · exact sameOutcome_fault _ _
  | reset =>
    have same : resetEngine t = resetEngine s := h.look (look := resetEngine) fun _ _ _ => rfl
    rw [access, access, same]
    exact sameOutcome_next (.refl _)

end Commands

/-- Settles O46: the two hosts make the same access, and it carries states with the same images to such
states. -/
theorem representativesInvisible : Obligations.RepresentativesInvisible := by
  intro s t s' h
  have step_same : SameOutcome (step s) (step t) := by
    rw [step, step, h.look (look := State.host) fun _ _ _ => rfl]
    cases s.host with
    | nil => exact sameOutcome_next h
    | cons a rest =>
      exact access_same a (h.apply (op := fun u => { u with host := rest }) fun _ _ _ => rfl)
  exact step_same s'

end Sys2Proof.Proofs
end

section
/-!
The points of both curves as groups (R311, R325, R341, R371, R382): the points that represent a point of the
curve obey the laws of Mathlib's group, since a point of the curve has one representative.
-/

namespace Sys2Proof.Proofs

open Sys2Proof Sys2Proof.Machine Sys2Proof.Laws WeierstrassCurve.Affine

section Laws

variable {F L : Type} [Field L] [DecidableEq L] [DecidableEq F] {K : FieldOps F} {good : F → Prop}
  {φ : F → L} {b : L}

/-- Each law is that of the group, read on the points represented. -/
theorem represented_groupLaws (M : FieldModel K good φ) :
    GroupLaws K (RepresentedIn good φ (⊤ : AddSubgroup (shortCurve b).Point)) where
  add_mem := fun _ _ ⟨_, _, hA⟩ ⟨_, _, hB⟩ => ⟨_, trivial, hA.add M hB⟩
  neg_mem := fun _ ⟨_, _, hA⟩ => ⟨_, trivial, hA.neg M⟩
  add_comm := fun _ _ ⟨A, _, hA⟩ ⟨B, _, hB⟩ => (hA.add M hB).unique M (hB.add M hA) (add_comm A B)
  add_assoc := fun _ _ _ ⟨A, _, hA⟩ ⟨B, _, hB⟩ ⟨C, _, hC⟩ =>
    ((hA.add M hB).add M hC).unique M (hA.add M (hB.add M hC)) (add_assoc A B C)
  add_inf := fun _ ⟨A, _, hA⟩ => (hA.add M .inf).unique M hA (add_zero A)
  add_neg := fun _ ⟨A, _, hA⟩ => (hA.add M (hA.neg M)).unique M .inf (add_neg_cancel A)
  neg_neg := fun _ ⟨A, _, hA⟩ => ((hA.neg M).neg M).unique M hA (neg_neg A)
  smul_zero := fun _ ⟨A, _, hA⟩ => (hA.smul M 0).unique M .inf (zero_nsmul A)
  smul_succ := fun _ k ⟨A, _, hA⟩ =>
    (hA.smul M (k + 1)).unique M ((hA.smul M k).add M hA) (succ_nsmul A k)
  smul_inf := smul_inf K
  smul_sum := fun _ k m ⟨A, _, hA⟩ =>
    (hA.smul M (k + m)).unique M ((hA.smul M k).add M (hA.smul M m)) (add_nsmul A k m)
  smul_smul := fun _ k m ⟨A, _, hA⟩ =>
    ((hA.smul M k).smul M m).unique M (hA.smul M (k * m)) (mul_nsmul A k m).symm

end Laws

/-- Settles O56: the canonical points of each curve are those that represent a point of Mathlib's curve. -/
theorem pointGroupLaws : Obligations.PointGroupLaws := by
  have := p_fact
  have := fp2_fact
  have curve1_eq : curve1 = fun P => canonical1 P ∧ onCurve1 Config.params P = true :=
    funext fun _ => propext curve1_iff
  have twist_eq : twist = fun P => canonical2 P ∧ onTwist P = true :=
    funext fun _ => propext twist_iff
  exact ⟨curve1_eq ▸ represented_groupLaws fp_model, twist_eq ▸ represented_groupLaws fp2_model⟩

end Sys2Proof.Proofs
end

section
/-!
The results of the point commands (45_g1, 47_scalar_mult), for both groups where the text is one: the affine
image of a drawn quadruple, the sum by R311's table, the multiple by R375's loop, and what each shape of point
command answers on valid sources.
-/

namespace Sys2Proof.Proofs

open Sys2Proof Sys2Proof.Machine Sys2Proof.Laws

/-! ### The loop of R375 -/

section Loop

/-- The bits of 2k + b are those of k, then b. -/
theorem bitsBelow_two_mul_add (k : Nat) (b : Bool) :
    ∀ j, bitsBelow (2 * k + b.toNat) (j + 1) = bitsBelow k j ++ [b]
  | 0 => by cases b <;> simp [bitsBelow]
  | j + 1 => by
    have half : (2 * k + b.toNat) / 2 = k := by cases b <;> simp; omega
    rw [bitsBelow, bitsBelow_two_mul_add k b j, Nat.testBit_succ, half]
    rfl

theorem bitLen_two_mul_add {k : Nat} {b : Bool} (h : 2 * k + b.toNat ≠ 0) :
    bitLen (2 * k + b.toNat) = bitLen k + 1 := by
  have half : (2 * k + b.toNat) / 2 = k := by cases b <;> simp; omega
  rw [bitLen, bitLen, if_neg h, Nat.log2_def, half]
  by_cases hk : k = 0
  · subst hk
    cases b <;> simp_all
  · rw [if_pos (by omega), if_neg hk]

variable {α : Type} {mul : α → α → α} {one : α}

/-- One more bit is one more round; a leading 0 squares `one`, which changes nothing. -/
theorem msbLoop_two_mul_add (idem : mul one one = one) (a : α) (k : Nat) (b : Bool) :
    msbLoop mul one a (2 * k + b.toNat) = msbRound mul a (msbLoop mul one a k) b := by
  by_cases h : 2 * k + b.toNat = 0
  · obtain ⟨hk, hb⟩ : k = 0 ∧ b = false := by cases b <;> simp_all
    subst hk hb
    exact idem.symm
  · rw [msbLoop, msbLoop, bitsMsb, bitsMsb, bitLen_two_mul_add h, bitsBelow_two_mul_add,
      List.foldl_append]
    rfl

end Loop

/-- The three equations of R375's loop. -/
theorem smul_loop {F : Type} [DecidableEq F] (K : FieldOps F) (P : Aff F) (k : Nat) :
    Aff.smul K 0 P = .inf ∧
    Aff.smul K (2 * k) P = Aff.add K (Aff.smul K k P) (Aff.smul K k P) ∧
    Aff.smul K (2 * k + 1) P = Aff.add K (Aff.add K (Aff.smul K k P) (Aff.smul K k P)) P :=
  ⟨rfl, msbLoop_two_mul_add rfl P k false, msbLoop_two_mul_add rfl P k true⟩

/-! ### The table of R311 -/

/-- A quotient of the model solves its equation. -/
theorem quotient_mul {F L : Type} [Field L] {K : FieldOps F} {good : F → Prop} {φ : F → L}
    (M : FieldModel K good φ) {n d : F} (gn : good n) (hd : φ d ≠ 0) :
    K.mul (K.mul n (K.inv d)) d = n := by
  refine (M.inj (M.good_mul _ _) gn).mp ?_
  rw [M.map_mul, M.map_mul, M.map_inv, inv_mul_cancel_right₀ hd]

theorem add_inf_right {F : Type} [DecidableEq F] (K : FieldOps F) (P : Aff F) :
    Aff.add K P .inf = P := by
  cases P <;> rfl

section Points

variable {F L : Type} [DecidableEq F] [Field L] {G : PointGroup F} {good : F → Prop} {φ : F → L}

/-- The sum of the model is that of R311's table, its slope the quotient of tangent or chord. -/
theorem isSum_add (M : GroupModel G good φ) (h2 : (2 : L) ≠ 0) {P Q : Aff F} (hP : Aff.All good P)
    (hQ : Aff.All good Q) : IsSum G.ops P Q (Aff.add G.ops P Q) := by
  cases P with
  | inf => exact rfl
  | pt x1 y1 =>
    cases Q with
    | inf => exact rfl
    | pt x2 y2 =>
      obtain ⟨gx1, gy1⟩ := hP
      obtain ⟨gx2, gy2⟩ := hQ
      refine ⟨fun hx hy => ?opposite, fun hx hy nonzero => ?tangent, fun hx => ?chord⟩
      case opposite => rw [Aff.add, if_pos hx, if_pos hy]
      case tangent =>
        subst hx hy
        have double : φ y1 + φ y1 ≠ 0 := by
          rw [← two_mul]
          exact mul_ne_zero h2 fun h => nonzero ((M.inj gy1 M.good_zero).mp (h.trans M.map_zero.symm))
        have distinct : y1 ≠ G.ops.neg y1 := fun h =>
          double (eq_neg_iff_add_eq_zero.mp ((congrArg φ h).trans (M.map_neg y1)))
        rw [Aff.add, if_pos rfl, if_neg distinct]
        exact ⟨_, quotient_mul M.toFieldModel (M.good_add _ _) (by rwa [M.map_add]), _, rfl, rfl⟩
      case chord =>
        have difference : φ (G.ops.sub x2 x1) ≠ 0 := by
          rw [M.map_sub]
          exact sub_ne_zero.mpr fun h => hx ((M.inj gx1 gx2).mp h.symm)
        rw [Aff.add, if_neg hx]
        exact ⟨_, quotient_mul M.toFieldModel (M.good_sub _ _) difference, _, rfl, rfl⟩

/-! ### Drawn quadruples -/

/-- Whatever the draw, the quadruple has the affine image it is drawn for (R64). -/
theorem affineOf_drawn (M : GroupModel G good φ) {P : Aff F} (hP : Aff.All good P) (s : State) :
    affineOf G.ops (Jac.drawn G.ops (G.draw s) P) = P := by
  cases P with
  | inf => exact affineOf_of_z_eq_zero rfl
  | pt x y =>
    rw [Jac.drawn]
    have scale : good (if (G.draw s).scale = G.ops.zero then G.ops.one else (G.draw s).scale) ∧
        (if (G.draw s).scale = G.ops.zero then G.ops.one else (G.draw s).scale) ≠ G.ops.zero := by
      split
      · exact ⟨M.good_one, one_ne_zero_of_model M⟩
      · exact ⟨(M.good_draw s).1, ‹_›⟩
    exact affineOf_scaled M scale.1 scale.2 hP.1 hP.2

/-! ### The point commands on valid sources -/

variable {i : Instr} {s : State} {rd ra rb kb : Field6} {p q : Jac F} {e : Ending}

/-- Command `i` answers in register rd a quadruple with affine image P, clears ERR, and changes nothing else
but the count of draws. -/
def AnswersPoint (G : PointGroup F) (rd : Field6) (i : Instr) (s : State) (P : Aff F) : Prop :=
  ∃ j d, exec i s = .next { G.file.write s rd j with err := 0, draws := d } ∧ affineOf G.ops j = P

theorem answersPoint_of_writePoint (M : GroupModel G good φ) {P : Aff F} (hP : Aff.All good P)
    (ready : Ready i s) (shape : exec i s = runCommand i s e)
    (he : e = .success (writePoint G rd P s)) : AnswersPoint G rd i s P :=
  ⟨_, _, exec_success ready shape he rfl, affineOf_drawn M hP s⟩

theorem pointAdd_of_read (hp : G.file.read s ra = some p) (hq : G.file.read s rb = some q) :
    pointAdd G rd ra rb s =
      if p.z = G.ops.zero then .success (G.file.write s rd q)
      else if q.z = G.ops.zero then .success (G.file.write s rd p)
      else .success (writePoint G rd (Aff.add G.ops (affineOf G.ops p) (affineOf G.ops q)) s) := by
  rw [pointAdd_eq_onSource, hp, hq]
  rfl

/-- ADD answers a copy where an operand is infinite, and the sum of the images in every case (R312, R342). -/
theorem pointAdd_answers (M : GroupModel G good φ) (hp : G.file.read s ra = some p)
    (hq : G.file.read s rb = some q) (ready : Ready i s)
    (shape : exec i s = runCommand i s (pointAdd G rd ra rb s)) :
    (p.z = G.ops.zero → exec i s = .next (succeed (G.file.write s rd q))) ∧
    (p.z ≠ G.ops.zero → q.z = G.ops.zero → exec i s = .next (succeed (G.file.write s rd p))) ∧
    AnswersPoint G rd i s (Aff.add G.ops (affineOf G.ops p) (affineOf G.ops q)) := by
  have answer := exec_eq_finish ready shape (pointAdd_of_read hp hq)
  by_cases pInf : p.z = G.ops.zero
  · rw [if_pos pInf] at answer
    refine ⟨fun _ => answer, fun pFin => absurd pInf pFin, q, _, answer, ?_⟩
    rw [affineOf_of_z_eq_zero pInf, Aff.add]
  · rw [if_neg pInf] at answer
    by_cases qInf : q.z = G.ops.zero
    · rw [if_pos qInf] at answer
      refine ⟨fun h => absurd h pInf, fun _ _ => answer, p, _, answer, ?_⟩
      rw [affineOf_of_z_eq_zero qInf, add_inf_right]
    · rw [if_neg qInf] at answer
      exact ⟨fun h => absurd h pInf, fun _ h => absurd h qInf, _, _, answer,
        affineOf_drawn M (add_coordinates M.toFieldModel (affineOf_good M.toFieldModel p)
          (affineOf_good M.toFieldModel q)) s⟩

theorem pointUnary_of_read {op : Aff F → Aff F} (hp : G.file.read s ra = some p) :
    pointUnary G op rd ra s = .success (writePoint G rd (op (affineOf G.ops p)) s) := by
  rw [pointUnary_eq_onSource, hp]
  rfl

theorem pointMul_of_read {k : Nat} (hp : G.file.read s ra = some p) (hk : readReg s.k kb = some k) :
    pointMul G rd ra kb s =
      .success (writePoint G rd (Aff.smul G.ops k (affineOf G.ops p)) s) := by
  rw [pointMul_eq_onSource, kFile_read, hp, hk]
  rfl

theorem pointBaseMul_of_read {k : Nat} {base : Aff F} (hk : readReg s.k kb = some k) :
    pointBaseMul G base rd kb s = .success (writePoint G rd (Aff.smul G.ops k base) s) := by
  rw [pointBaseMul_eq_onSource, kFile_read, hk]
  rfl

end Points

/-! ### The representative that AFF answers -/

section Normalise

variable {F : Type} [DecidableEq F] {K : FieldOps F} {j : Jac F}

/-- AFF copies an infinite point (R315, R345; log 25). -/
theorem normalise_of_z_eq_zero (h : j.z = K.zero) : Jac.normalise K j = j := by
  rw [Jac.normalise, affineOf_of_z_eq_zero h]

theorem normalise_of_affineOf {x y : F} (h : affineOf K j = .pt x y) :
    Jac.normalise K j = ⟨x, y, K.one, K.one⟩ := by
  rw [Jac.normalise, h]
  rfl

end Normalise

end Sys2Proof.Proofs
end

section
/-!
The statements about the results of the G1 point commands and of the two ONCURVE commands (R311 to R317, R346,
R347, R373 to R375).
-/

namespace Sys2Proof.Proofs

open Sys2Proof Sys2Proof.Machine Sys2Proof.Laws

theorem pfield_two_ne_zero : (2 : PField) ≠ 0 := by
  have hp := seven_le_p
  exact_mod_cast natCast_ne_zero_of_lt (a := 2) (by decide) (by omega)

/-- Settles O28: each command is its shape on valid sources, its result drawn for the image of the rule; the
slope of the sum solves R311's equation, and R375's loop does one round for each bit. -/
theorem g1PointResults : Obligations.G1PointResults := by
  have := p_fact
  intro rd ra rb kb s run hrd hra hrb hkb
  have image := affineOf_canonical1
  have points := canonical1_pointSet
  refine ⟨?add, ?unary, ?mul, ?basemul, fun P Q hP hQ => ?sum, fun P k => smul_loop _ P k⟩
  case add =>
    intro p q hp hq _ _
    exact pointAdd_answers g1_model hp hq (ready_of_three run hrd hra hrb rfl) rfl
  case unary =>
    intro p hp _
    have ready {i : Instr} := ready_of_two (i := i) run hrd hra
    have neg : AnswersPoint g1Group rd (.g1Neg rd ra) s
        (Aff.neg g1Group.ops (affineOf g1Group.ops p)) :=
      answersPoint_of_writePoint g1_model (points.neg (image p)) (ready rfl) rfl (pointUnary_of_read hp)
    refine ⟨?dbl, fun hz => ?infinite, fun x y hxy => ?finite⟩
    case dbl =>
      exact answersPoint_of_writePoint g1_model (points.add (image p) (image p)) (ready rfl) rfl
        (pointUnary_of_read hp)
    case infinite =>
      rw [affineOf_of_z_eq_zero (K := g1Group.ops) hz] at neg
      exact ⟨neg, exec_success (ready rfl) rfl (unary_of_read hp) (by rw [normalise_of_z_eq_zero hz]; rfl)⟩
    case finite =>
      have hxy : affineOf g1Group.ops p = .pt x y := hxy
      rw [hxy] at neg
      exact ⟨neg, exec_success (ready rfl) rfl (unary_of_read hp) (by rw [normalise_of_affineOf hxy]; rfl)⟩
  case mul =>
    intro p k hp hk _
    exact answersPoint_of_writePoint g1_model (points.smul (image p) k)
      (ready_of_three run hrd hra hkb rfl) rfl (pointMul_of_read hp hk)
  case basemul =>
    intro k hk
    exact answersPoint_of_writePoint g1_model (points.smul points.base k) (ready_of_two run hrd hkb rfl) rfl
      (pointBaseMul_of_read hk)
  case sum => exact isSum_add g1_model pfield_two_ne_zero hP hQ

/-- Settles O30: each test is the validity predicate on the affine image, which INF passes. -/
theorem onCurveResults : Obligations.OnCurveResults := by
  intro ra s run hra
  have ready {i : Instr} := ready_of_index (i := i) run hra
  refine ⟨fun j hj => ⟨fun hz => ?inf1, fun x y hxy => ?pt1⟩,
    fun j hj => ⟨fun hz => ?inf2, fun x y hxy => ?pt2⟩⟩
  case inf1 =>
    exact exec_success (ready rfl) rfl (test_of_read hj (congrArg _ (affineOf_of_z_eq_zero hz))) rfl
  case pt1 =>
    exact exec_success (ready rfl) rfl (test_of_read hj (congrArg _ hxy)) rfl
  case inf2 =>
    exact exec_success (ready rfl) rfl (test_of_read hj (congrArg _ (affineOf_of_z_eq_zero hz))) rfl
  case pt2 =>
    have predicate : onCurve2 Config.params (.pt x y) = decide
        (Fp2.mul Config.params y y = Fp2.add Config.params
          (Fp2.mul Config.params (Fp2.mul Config.params x x) x) Config.params.b2 ∧
          Aff.smul (fp2Ops Config.params) Config.params.n (.pt x y) = .inf) := by
      rw [onCurve2, onCurveEq, beq_eq_decide, Bool.decide_and]
      rfl
    exact exec_success (ready rfl) rfl (test_of_read hj ((congrArg _ hxy).trans predicate)) rfl

end Sys2Proof.Proofs
end

section
/-!
The statement about the results of the G2 point commands (R341 to R345, R375 to R377): what NEG and AFF answer,
for both groups in one text, and the coordinate field of G2 where R311's tangent divides by 2.
-/

namespace Sys2Proof.Proofs

open Sys2Proof Sys2Proof.Machine Sys2Proof.Laws

section Points

variable {F L : Type} [DecidableEq F] [Field L] {G : PointGroup F} {good : F → Prop} {φ : F → L}
  {i : Instr} {s : State} {rd ra : Field6} {p : Jac F}

/-- DBL and NEG answer their operation's value on the affine image, where that keeps good coordinates
(R313, R314, R343, R344). -/
theorem pointUnary_answers {op : Aff F → Aff F} (M : GroupModel G good φ)
    (keeps : ∀ {P}, Aff.All good P → Aff.All good (op P)) (hp : G.file.read s ra = some p)
    (ready : Ready i s) (shape : exec i s = runCommand i s (pointUnary G op rd ra s)) :
    AnswersPoint G rd i s (op (affineOf G.ops p)) :=
  answersPoint_of_writePoint M (keeps (affineOf_good M.toFieldModel p)) ready shape (pointUnary_of_read hp)

/-- NEG answers infinity for infinity, else the opposite ordinate (R311, R314, R344). -/
theorem pointNeg_answers (M : GroupModel G good φ) (hp : G.file.read s ra = some p) (ready : Ready i s)
    (shape : exec i s = runCommand i s (pointUnary G (Aff.neg G.ops) rd ra s)) :
    (p.z = G.ops.zero → AnswersPoint G rd i s .inf) ∧
    ∀ x y, affineOf G.ops p = .pt x y → AnswersPoint G rd i s (.pt x (G.ops.neg y)) := by
  have points := coordinates_pointSet (base := .inf) M.toFieldModel trivial
  have answer := pointUnary_answers M points.neg hp ready shape
  refine ⟨fun hz => ?infinite, fun x y hxy => ?finite⟩
  case infinite => rwa [affineOf_of_z_eq_zero hz] at answer
  case finite => rwa [hxy] at answer

/-- AFF copies an infinite point, and answers (x, y, 1, 1) for any other (R315, R345; log 25). -/
theorem normalise_answers (hp : G.file.read s ra = some p) (ready : Ready i s)
    (shape : exec i s = runCommand i s (unary G.file G.file (Jac.normalise G.ops) rd ra s)) :
    (p.z = G.ops.zero → exec i s = .next (succeed (G.file.write s rd p))) ∧
    ∀ x y, affineOf G.ops p = .pt x y →
      exec i s = .next (succeed (G.file.write s rd ⟨x, y, G.ops.one, G.ops.one⟩)) := by
  have answer := exec_success ready shape (unary_of_read hp) rfl
  exact ⟨fun hz => normalise_of_z_eq_zero hz ▸ answer, fun x y hxy => normalise_of_affineOf hxy ▸ answer⟩

end Points

theorem qfield_two_ne_zero : (2 : QField) ≠ 0 := fun h =>
  pfield_two_ne_zero (congrArg QuadraticAlgebra.re h)

/-- Settles O29: each command is its shape on valid sources, its result drawn for the image of the rule; the
slope of the sum solves R311's equation over Fp2, and R375's loop does one round for each bit. -/
theorem g2PointResults : Obligations.G2PointResults := by
  have := p_fact
  have := fp2_fact
  intro rd ra rb kb s run hrd hra hrb hkb
  have points := canonical2_pointSet
  refine ⟨?add, ?unary, ?mul, ?basemul, fun P Q hP hQ => ?sum, fun P k => smul_loop _ P k⟩
  case add =>
    intro p q hp hq _ _
    exact pointAdd_answers g2_model hp hq (ready_of_three run hrd hra hrb rfl) rfl
  case unary =>
    intro p hp _
    have ready {i : Instr} := ready_of_two (i := i) run hrd hra
    have dbl := pointUnary_answers (i := .g2Dbl rd ra) g2_model (fun h => points.add h h) hp (ready rfl) rfl
    obtain ⟨negInf, negPt⟩ := pointNeg_answers (i := .g2Neg rd ra) g2_model hp (ready rfl) rfl
    obtain ⟨affInf, affPt⟩ := normalise_answers (G := g2Group) (i := .g2Aff rd ra) hp (ready rfl) rfl
    exact ⟨dbl, fun hz => ⟨negInf hz, affInf hz⟩, fun x y hxy => ⟨negPt x y hxy, affPt x y hxy⟩⟩
  case mul =>
    intro p k hp hk _
    exact answersPoint_of_writePoint g2_model (points.smul (affineOf_canonical2 p) k)
      (ready_of_three run hrd hra hkb rfl) rfl (pointMul_of_read hp hk)
  case basemul =>
    intro k hk
    exact answersPoint_of_writePoint g2_model (points.smul points.base k)
      (ready_of_two run hrd hkb rfl) rfl (pointBaseMul_of_read hk)
  case sum => exact isSum_add g2_model qfield_two_ne_zero hP hQ

end Sys2Proof.Proofs
end

section
/-!
The statement about G1.UNMARSHAL and G2.UNMARSHAL (R346, R433, R435, R436, R466): what a point decoder answers
once its bytes are read.
-/

namespace Sys2Proof.Proofs

open Sys2Proof Sys2Proof.Machine Sys2Proof.Laws

/-! ### The all-zero pattern -/

/-- The first n limbs are zero, as integers or modulo p by `ALLZERO_ON` (R436). -/
def LimbsAllZero (n : Nat) (bytes : List Byte) : Prop :=
  match Config.allZeroOn with
  | .bytes => ∀ j, j < n → limbNat bytes j = 0
  | .values => ∀ j, j < n → limbNat bytes j % Config.params.p = 0

theorem allZeroPattern_iff {n : Nat} {bytes : List Byte} :
    allZeroPattern n bytes = true ↔ LimbsAllZero n bytes := by
  rw [allZeroPattern, LimbsAllZero]
  cases Config.allZeroOn with
  | bytes => simp
  | values => simp

/-! ### The decoding of a point -/

/-- The success of a decoder that has written its register (R21, R49). -/
theorem succeed_consume_write {α : Type} {dst : RegFile α} {s : State} {rd : Field6} {x : α} {len : Nat}
    (keeps : KeepsWindow dst) (inside : len ≤ s.blen.toNat) :
    succeed (consume len (dst.write s rd x)) = { dst.write s rd x with
      err := 0, bptr := BitVec.ofNat 32 (s.bptr.toNat + len),
      blen := BitVec.ofNat 32 (s.blen.toNat - len) } := by
  have same := keeps s rd x
  rw [succeed_consume (same.blen ▸ inside), same.bptr, same.blen]

/-- A point decoder's three outcomes on the bytes it has read: infinity, the representative (x, y, 1, 1) of a
point that passes the group's predicate, and MalformedPoint for any other candidate (R433, R435, R466). -/
theorem pointDecode_answers {F : Type} (G : PointGroup F) {i : Instr} {s : State} {rd : Field6} {len : Nat}
    {allZero : List Byte → Bool} {coords : List Byte → F × F} {bytes : List Byte}
    (keeps : KeepsWindow G.file) (ready : Ready i s)
    (shape : exec i s = runCommand i s (pointDecode G len allZero coords rd s))
    (room : windowEnd s ≤ Config.bufBytes) (inside : len ≤ s.blen.toNat)
    (read : memReadRange s.dbuf s.bptr.toNat len = some bytes) {zeros accepted : Prop}
    (pattern : allZero bytes = true ↔ zeros)
    (predicate : G.onCurve (.pt (coords bytes).1 (coords bytes).2) = true ↔ accepted) :
    let written := fun j => Host.Outcome.next { G.file.write s rd j with
      err := 0, bptr := BitVec.ofNat 32 (s.bptr.toNat + len),
      blen := BitVec.ofNat 32 (s.blen.toNat - len) }
    (zeros → exec i s = written (Jac.infinity G.ops)) ∧
    (¬ zeros → accepted → exec i s = written (Jac.ofAffine G.ops (coords bytes).1 (coords bytes).2)) ∧
    (¬ zeros → ¬ accepted → exec i s = .next { s with err := 2 }) := by
  rw [← pattern, ← predicate]
  have ending := exec_eq_finish ready shape (withWindow_read room inside)
  rw [read, Option.elim] at ending
  refine ⟨fun zero => ?infinity, fun nonzero good => ?point, fun nonzero bad => ?malformed⟩
  case infinity => rw [ending, if_pos zero, finish, succeed_consume_write keeps inside]
  case point => rw [ending, if_neg nonzero, if_pos good, finish, succeed_consume_write keeps inside]
  case malformed => rw [ending, if_neg nonzero, if_neg bad]; rfl

/-! ### The validity predicates -/

theorem onCurve1_pt_iff {x y : MontWord} : onCurve1 Config.params (.pt x y) = true ↔
    Fp.mul Config.params y y =
      Fp.add Config.params (Fp.mul Config.params (Fp.mul Config.params x x) x) (Fp.enc Config.params 3) :=
  decide_eq_true_iff

theorem onCurve2_pt_iff {x y : Fp2} : onCurve2 Config.params (.pt x y) = true ↔
    Fp2.mul Config.params y y =
        Fp2.add Config.params (Fp2.mul Config.params (Fp2.mul Config.params x x) x) Config.params.b2 ∧
      Aff.smul (fp2Ops Config.params) Config.params.n (.pt x y) = .inf := by
  rw [onCurve2, Bool.and_eq_true, beq_iff_eq]
  exact and_congr_left' decide_eq_true_iff

/-- Settles O27: both commands are `pointDecode`, its test of the pattern that of R436 and its test of the
candidate the group's predicate. -/
theorem unmarshalResults : Obligations.UnmarshalResults := by
  intro rd s len bytes run hrd room inside read
  refine ⟨?g1, ?g2⟩
  case g1 =>
    rintro rfl
    exact pointDecode_answers g1Group (i := .g1Unmarshal rd) (fun _ _ _ => ⟨rfl, rfl, rfl⟩)
      (ready_of_index run hrd rfl) rfl room inside read allZeroPattern_iff onCurve1_pt_iff
  case g2 =>
    rintro rfl
    exact pointDecode_answers g2Group (i := .g2Unmarshal rd) (fun _ _ _ => ⟨rfl, rfl, rfl⟩)
      (ready_of_index run hrd rfl) rfl room inside read allZeroPattern_iff onCurve2_pt_iff

end Sys2Proof.Proofs
end

section
/-!
The final exponentiation (R401). An element of Fp12 other than zero has order dividing p¹² − 1, as CONJ is the
p⁶-th power and undoes itself; so its power E has order dividing n, and the laws of R401 are those of powers.
-/

namespace Sys2Proof.Proofs

open Sys2Proof Sys2Proof.Machine Sys2Proof.Laws

/-! ### The order of the group of Fp12 -/

section Order

variable {a : Fp12}

/-- CONJ undoes itself (R281). -/
theorem fp12_conj_conj (ha : Fp12.Canonical Config.params a) :
    Fp12.conj Config.params (Fp12.conj Config.params a) = a :=
  fp12_eq_of_residue (fp12_conj_canonical (fp12_conj_canonical ha)) ha <| by
    simp only [Fp12.residue, Fp12.conj, fp6_residue_neg, neg_neg]

theorem fp12_pow_card (ha : Fp12.Canonical Config.params a) :
    Fp12.pow Config.params a (Config.params.p ^ 12) = a := by
  rw [show Config.params.p ^ 12 = Config.params.p ^ 6 * Config.params.p ^ 6 from pow_add _ 6 6,
    ← fp12_pow_mul, ← fp12_conj_eq_pow ha, ← fp12_conj_eq_pow (fp12_conj_canonical ha),
    fp12_conj_conj ha]

/-- Fermat's theorem in Fp12: a factor a of a^(p¹²) = a cancels. -/
theorem fp12_pow_card_sub_one (ha : Fp12.Canonical Config.params a) (nonzero : a ≠ Fp12.zero) :
    Fp12.pow Config.params a (Config.params.p ^ 12 - 1) = Fp12.one Config.params := by
  have positive : 1 ≤ Config.params.p ^ 12 := Nat.one_le_pow _ _ Config.params_valid.p_prime.pos
  calc Fp12.pow Config.params a (Config.params.p ^ 12 - 1)
    _ = Fp12.mul Config.params (Fp12.pow Config.params a (Config.params.p ^ 12 - 1))
          (Fp12.mul Config.params a (Fp12.inv Config.params a)) := by
        rw [fp12_mul_inv ha nonzero, fp12_mul_one (fp12_pow_canonical _ _)]
    _ = Fp12.mul Config.params (Fp12.pow Config.params a (Config.params.p ^ 12 - 1 + 1))
          (Fp12.inv Config.params a) := by
        rw [fp12_pow_add, fp12_pow_one ha, fp12_mul_assoc]
    _ = Fp12.mul Config.params a (Fp12.inv Config.params a) := by
        rw [Nat.sub_add_cancel positive, fp12_pow_card ha]
    _ = Fp12.one Config.params := fp12_mul_inv ha nonzero

end Order

/-! ### The exponent E and its laws -/

/-- E·n = p¹² − 1 (R401). -/
theorem finalExponent_mul_n :
    finalExponent Config.params * Config.params.n = Config.params.p ^ 12 - 1 :=
  Nat.div_mul_cancel Config.params_valid.n_dvd

/-- R401's equation determines E. -/
theorem eq_finalExponent {e : ℕ} (h : e * Config.params.n = Config.params.p ^ 12 - 1) :
    e = finalExponent Config.params :=
  Nat.eq_of_mul_eq_mul_right Config.params_valid.n_prime.pos (h.trans finalExponent_mul_n.symm)

theorem finalExp_one : finalExp Config.params (Fp12.one Config.params) = Fp12.one Config.params :=
  (eq_fp12_pow_of_residue fp12_one_canonical <| by rw [fp12_residue_one, one_pow]).symm

/-- GT is the set of the elements whose n-th power is one (R284, R401). -/
theorem finalExp_pow_n {f : Fp12} (hf : Fp12.Canonical Config.params f) (nonzero : f ≠ Fp12.zero) :
    Fp12.pow Config.params (finalExp Config.params f) Config.params.n = Fp12.one Config.params := by
  rw [finalExp, fp12_pow_mul, finalExponent_mul_n, fp12_pow_card_sub_one hf nonzero]

/-- Settles O55: the first two laws are those of powers, the third is that of the order p¹² − 1 = E·n. -/
theorem finalExpLaws : Obligations.FinalExpLaws :=
  ⟨finalExp_one, fun f g _ _ => fp12_mul_pow f g _, fun _ hf nonzero => finalExp_pow_n hf nonzero⟩

end Sys2Proof.Proofs
end

section
/-!
The statements about the results of the pairing commands (R402, R404 to R408).
-/

namespace Sys2Proof.Proofs

open Sys2Proof Sys2Proof.Machine Sys2Proof.Laws

/-! ### FINALEXP -/

/-- Settles O33: FINALEXP raises to the power E, the only exponent with E·n = p¹² − 1. -/
theorem finalExpResult : Obligations.FinalExpResult := by
  intro rd ra s f e run hrd hra hf nonzero he
  rw [eq_finalExponent he]
  exact exec_success (ready_of_two run hrd hra rfl) rfl (unaryNonzero_of_read hf nonzero) rfl

/-! ### MILLER and PAIR -/

section Infinite

variable {P : Aff MontWord} {Q : Aff Fp2}

/-- R405 on an infinite operand. -/
theorem millerOf_eq_one (infinite : P = .inf ∨ Q = .inf) :
    millerOf Config.params P Q = Fp12.one Config.params := by
  rcases infinite with rfl | rfl
  · rfl
  · cases P <;> rfl

/-- R407 on an infinite operand. -/
theorem pairOf_eq_one (infinite : P = .inf ∨ Q = .inf) :
    pairOf Config.params P Q = Fp12.one Config.params := by
  rcases infinite with rfl | rfl
  · rfl
  · cases P <;> rfl

end Infinite

/-- The affine image of a register that passes the predicate of G1 is a point of G1 (R310). -/
theorem isPoint1_of_affineOf {p : Jac MontWord} {x y : MontWord}
    (image : affineOf (fpOps Config.params) p = .pt x y)
    (on : onCurve1 Config.params (.pt x y) = true) : IsPoint1 Config.params x y := by
  obtain ⟨hx, hy⟩ : canonical1 (.pt x y) := image ▸ affineOf_canonical1 p
  exact ⟨hx, hy, on⟩

/-- The affine image of a register that passes the predicate of G2 is a point of G2 (R340). -/
theorem isPoint2_of_affineOf {q : Jac Fp2} {x y : Fp2}
    (image : affineOf (fp2Ops Config.params) q = .pt x y)
    (on : onCurve2 Config.params (.pt x y) = true) : IsPoint2 Config.params x y := by
  obtain ⟨hx, hy⟩ : canonical2 (.pt x y) := image ▸ affineOf_canonical2 q
  exact ⟨hx, hy, on⟩

/-- Settles O32: both commands are `binary` with R405's and R407's function of the affine images, and images
that pass the two predicates are points of G1 and G2, of which R402 and R404 speak. -/
theorem millerPairResults : Obligations.MillerPairResults := by
  intro rd ra rb s p q run hrd hra hrb hp hq c put
  have ready {i : Instr} := ready_of_three (i := i) run hrd hra hrb
  have miller {v : Fp12}
      (hv : millerOf c (affineOf (fpOps c) p) (affineOf (fp2Ops c) q) = v) :
      exec (.miller rd ra rb) s = .next (put v) :=
    hv ▸ exec_success (ready rfl) rfl (binary_of_read hp hq) rfl
  have pair {v : Fp12}
      (hv : pairOf c (affineOf (fpOps c) p) (affineOf (fp2Ops c) q) = v) :
      exec (.pair rd ra rb) s = .next (put v) :=
    hv ▸ exec_success (ready rfl) rfl (binary_of_read hp hq) rfl
  refine ⟨fun zero => ?infinite, fun xp yp xq yq hP hQ => ⟨?miller, ?pair, fun on1 on2 => ?points⟩⟩
  case infinite =>
    have infinite := zero.imp (affineOf_of_z_eq_zero (K := fpOps c)) (affineOf_of_z_eq_zero (K := fp2Ops c))
    exact ⟨miller (millerOf_eq_one infinite), pair (pairOf_eq_one infinite)⟩
  case miller => exact miller (by rw [hP, hQ, millerOf])
  case pair => exact pair (by rw [hP, hQ, pairOf])
  case points =>
    have valid := Config.params_valid
    have point1 := isPoint1_of_affineOf hP on1
    have point2 := isPoint2_of_affineOf hQ on2
    exact ⟨valid.miller_ne_zero _ _ _ _ point1 point2, valid.pair_eq _ _ _ _ point1 point2,
      valid.pair_order _ _ _ _ point1 point2⟩

/-! ### PAIRCHK -/

/-- A run of valid registers reads as the list of their contents. -/
theorem readRun_of_valid {α : Type} {n start m : Nat} {v : Vector (Reg α) n} {xs : List α}
    (length : xs.length = m)
    (valid : ∀ i (h : i < xs.length), ∃ hn : start + i < n, v[start + i] = ⟨true, xs[i]⟩) :
    readRun v start m = some xs :=
  readRun_eq_some.mpr ⟨length, fun i h => Vector.getElem?_eq_some_iff.mpr (valid i h)⟩

/-- PAIRCHK on equal lists that its files hold and that are read (R408). -/
theorem pairCheck_of_read {ra rb : Field6} {s : State} {ps : List (Jac MontWord)} {qs : List (Jac Fp2)}
    (equal : s.lena = s.lenb) (inside1 : ra.toNat + s.lena.toNat ≤ Config.nG1)
    (inside2 : rb.toNat + s.lena.toNat ≤ Config.nG2)
    (hp : readRun s.g1 ra.toNat s.lena.toNat = some ps)
    (hq : readRun s.g2 rb.toNat s.lena.toNat = some qs) :
    pairCheck ra rb s = .success (setRes s (finalExp Config.params (millerProduct Config.params
      ((ps.map (affineOf (fpOps Config.params))).zip (qs.map (affineOf (fp2Ops Config.params))))) ==
        Fp12.one Config.params)) := by
  rw [pairCheck, if_pos equal, if_neg (by omega), hp, hq]
  rfl

/-- The product of PAIRCHK, taken over the pairs of quadruples (R408). -/
theorem millerProduct_zip_map (ps : List (Jac MontWord)) (qs : List (Jac Fp2)) :
    millerProduct Config.params
        ((ps.map (affineOf (fpOps Config.params))).zip (qs.map (affineOf (fp2Ops Config.params)))) =
      (ps.zip qs).foldl
        (fun v pq =>
          let P := affineOf (fpOps Config.params) pq.1
          let Q := affineOf (fp2Ops Config.params) pq.2
          if P = .inf ∨ Q = .inf then v
          else Fp12.mul Config.params v (millerOf Config.params P Q))
        (Fp12.one Config.params) := by
  rw [millerProduct, List.zip_map, List.foldl_map]
  rfl

/-- Settles O34: the lists lie inside their files and are read, and a round of R408's product multiplies by
the raw value where both members of its pair are finite. -/
theorem pairCheckResult : Obligations.PairCheckResult := by
  intro ra rb s ps qs run hra hrb equal inside1 inside2 length1 length2 valid1 valid2 c acc
  rw [← equal] at inside2 length2
  have checked := pairCheck_of_read equal inside1 inside2 (readRun_of_valid length1 valid1)
    (readRun_of_valid length2 valid2)
  have product : millerProduct c
      ((ps.map (affineOf (fpOps c))).zip (qs.map (affineOf (fp2Ops c)))) = acc := by
    rw [millerProduct_zip_map]
    refine List.foldl_ext _ _ _ fun v pq _ => ?round
    cases affineOf (fpOps c) pq.1 with
    | inf => exact if_pos (.inl rfl)
    | pt xp yp =>
      cases affineOf (fp2Ops c) pq.2 with
      | inf => exact if_pos (.inr rfl)
      | pt xq yq => exact if_neg (by simp)
  rw [product] at checked
  exact exec_success (ready_of_two run hra hrb rfl) rfl checked rfl

end Sys2Proof.Proofs
end

section
/-!
The statements about exceptions and hazards: the three endings of a command (R460), the halt that only reset
leaves (R464), and the list lengths, which belong to the host (R519).
-/

namespace Sys2Proof.Proofs

open Sys2Proof Sys2Proof.Machine Sys2Proof.Laws

/-! ### The three endings -/

/-- No effect stops the model: a command answers a next state whatever its effect ends as (R460). -/
theorem runCommand_next (i : Instr) (s : State) (e : Ending) : ∃ t, runCommand i s e = .next t := by
  rcases runCommand_cases i s e with
    ⟨_, r⟩ | ⟨_, _, r⟩ | ⟨_, _, ⟨_, _, r⟩ | ⟨_, _, r⟩ | ⟨_, _, _, r⟩⟩
  all_goals exact ⟨_, r⟩

theorem exec_next (i : Instr) (s : State) : ∃ t, exec i s = .next t := by
  obtain ⟨e, he, _⟩ := exec_effect_frame s i
  exact he ▸ runCommand_next i s e

/-- Of the engine an error writes ERR alone; the answer that the entropy source has given is the model's
(R440, R468). -/
theorem takeError_eq {s u : State} (h : u = s ∨ u = afterRequest s) (k : ErrorKind) :
    takeError k u = { s with err := errorNumber k, entropy := u.entropy, draws := u.draws } := by
  rcases h with rfl | rfl
  · rfl
  · unfold afterRequest
    split <;> rfl

/-- Settles O38: the endings of the common frame; a ready command is not ignored. -/
theorem threeEndings : Obligations.ThreeEndings := by
  refine ⟨exec_next, fun i s t ready h => ?_⟩
  cases exec_ends_frame h with
  | ignored halt => exact absurd halt (by simp [ready.running])
  | faulted _ c => exact .inr (.inr ⟨c, rfl⟩)
  | succeeded _ hu => exact .inl ⟨rfl, hu.fault, hu.finfo⟩
  | errored _ k hu => exact .inr (.inl ⟨k, takeError_eq hu k⟩)

/-! ### The halt -/

/-- While halted, an access other than reset leaves FAULT and FINFO: a word written to CMD is ignored, and no
other access writes them (R463, R464). -/
theorem access_halted {a : HostAction} {s t : State} (halt : halted s = true)
    (h : access a s = .next t) :
    (t.fault = s.fault ∧ t.finfo = s.finfo) ∨ (a = .reset ∧ t = resetEngine s) := by
  rcases access_cases h with reset | ⟨w, _, hw⟩ | ⟨_, _, keeps⟩
  · exact .inr reset
  · rw [command_halted halt] at hw
    cases hw
    exact .inl ⟨rfl, rfl⟩
  · exact .inl ⟨keeps.fault, keeps.finfo⟩

/-- Settles O13: of the accesses only reset writes FAULT while it is not 0, and reset clears every tag. -/
theorem onlyResetLeavesHalt : Obligations.OnlyResetLeavesHalt := by
  refine ⟨fun s w halt => command_halted halt w, fun s w rest halt hs => ?_, fun s t halt h => ?_⟩
  · rw [step, hs]
    exact command_halted (s := { s with host := rest }) halt w
  · rcases step_cases h with rfl | ⟨a, rest, hs, ha⟩
    · exact .inl ⟨rfl, rfl⟩
    · rcases access_halted (s := { s with host := rest }) halt ha with kept | ⟨rfl, rfl⟩
      · exact .inl kept
      · exact .inr ⟨rest, hs, rfl, registerValid_resetEngine _, fun _ => rfl⟩

/-! ### The list lengths -/

/-- A word written to CMD leaves LENA and LENB, whatever the command (R519). -/
theorem command_lengths {w : Word32} {s t : State} (h : command w s = .next t) :
    t.lena = s.lena ∧ t.lenb = s.lenb := by
  rcases command_cases h with ⟨_, rfl⟩ | ⟨_, rfl⟩ | ⟨i, _, hi⟩
  · exact ⟨rfl, rfl⟩
  · exact ⟨rfl, rfl⟩
  · have kept := exec_untouched hi
    exact ⟨kept.lena, kept.lenb⟩

/-- Of the control registers only 7 is LENA, and only 8 is LENB (R46). -/
theorem writeControl_lengths (s : State) (v : Word32) (n : Nat) :
    (n ≠ 7 → (writeControl s v n).lena = s.lena) ∧ (n ≠ 8 → (writeControl s v n).lenb = s.lenb) := by
  unfold writeControl
  split <;> simp

theorem readBuffer_lengths (s : State) (j : Nat) :
    (readBuffer s j).lena = s.lena ∧ (readBuffer s j).lenb = s.lenb := by
  unfold readBuffer
  split <;> exact ⟨rfl, rfl⟩

/-- An access that is neither reset nor a write to control register 7 or 8 leaves the length (R519). -/
theorem access_lengths {a : HostAction} {s t : State} (notReset : a ≠ .reset)
    (h : access a s = .next t) :
    ((∀ v, a ≠ .writeReg 7 v) → t.lena = s.lena) ∧
      ((∀ v, a ≠ .writeReg 8 v) → t.lenb = s.lenb) := by
  cases a with
  | writeReg n v =>
    rw [access] at h
    split at h
    · obtain ⟨lena, lenb⟩ := command_lengths h
      exact ⟨fun _ => lena, fun _ => lenb⟩
    · cases h
      obtain ⟨lena, lenb⟩ := writeControl_lengths s v n
      exact ⟨fun other => lena fun hn => other v (hn ▸ rfl),
        fun other => lenb fun hn => other v (hn ▸ rfl)⟩
  | readReg n =>
    cases h
    exact ⟨fun _ => rfl, fun _ => rfl⟩
  | writeByte j b =>
    rw [access] at h
    split at h <;> cases h
    exact ⟨fun _ => rfl, fun _ => rfl⟩
  | readByte j =>
    rw [access] at h
    split at h <;> cases h
    obtain ⟨lena, lenb⟩ := readBuffer_lengths s j
    exact ⟨fun _ => lena, fun _ => lenb⟩
  | reset => exact absurd rfl notReset

/-- Settles O11: the frame of every command has both lengths, and the host writes each through its own
register. -/
theorem listLengthsPersist : Obligations.ListLengthsPersist := by
  refine ⟨fun i s t h => ?_, fun s v => ⟨rfl, rfl⟩, fun a s t notReset h => access_lengths notReset h,
    fun s t h => ?_⟩
  · have kept := exec_untouched h
    exact ⟨kept.lena, kept.lenb⟩
  · cases h
    exact ⟨rfl, rfl⟩

end Sys2Proof.Proofs
end

section
/-!
The statement about sources that are not valid (R461, R470 step 4): a command reads its sources before it does
anything else, so one that is not valid ends it.
-/

namespace Sys2Proof.Proofs

open Sys2Proof Sys2Proof.Machine Sys2Proof.Laws

/-! ### Effects that read their sources first -/

/-- The effect `e` in state `s` is UninitOperand unless every register of the list is valid (R42, R461). -/
def ReadsFirst (s : State) (sources : List (FileName × Field6)) (e : Ending) : Prop :=
  (∃ r ∈ sources, registerValid s r = false) → e = .fault .uninitOperand

section Sources

variable {s : State}

theorem readsFirst_nil {e : Ending} : ReadsFirst s [] e := by
  rintro ⟨r, hr, _⟩
  cases hr

/-- An effect on the value of one source, which then reads the other sources first. -/
theorem readsFirst_cons {α : Type} {source : Option α} {effect : α → Ending} {r : FileName × Field6}
    {sources : List (FileName × Field6)} (tag : registerValid s r = source.isSome)
    (others : ∀ a, ReadsFirst s sources (effect a)) :
    ReadsFirst s (r :: sources) (onSource source effect) := by
  rintro ⟨q, hq, invalid⟩
  cases source with
  | none => rfl
  | some a =>
    rcases List.mem_cons.mp hq with rfl | hq
    · exact absurd (invalid.symm.trans tag) Bool.false_ne_true
    · exact others a ⟨q, hq, invalid⟩

theorem readsFirst_one {α : Type} {source : Option α} {effect : α → Ending} {r : FileName × Field6}
    (tag : registerValid s r = source.isSome) : ReadsFirst s [r] (onSource source effect) :=
  readsFirst_cons tag fun _ => readsFirst_nil

theorem readsFirst_two {α β : Type} {source : Option α} {source' : Option β} {effect : α → β → Ending}
    {r r' : FileName × Field6} (tag : registerValid s r = source.isSome)
    (tag' : registerValid s r' = source'.isSome) :
    ReadsFirst s [r, r'] (onSource source fun a => onSource source' (effect a)) :=
  readsFirst_cons tag fun _ => readsFirst_one tag'

/-- Every command is the common frame around an effect that reads the command's sources first. -/
theorem exec_readsFirst (s : State) :
    ∀ i : Instr, ∃ e, exec i s = runCommand i s e ∧ ReadsFirst s (instrSources i) e
  | .fpZero .. | .fpOne .. | .fpDec .. | .fp2Zero .. | .fp2One .. | .fp2Dec .. | .fp6Zero ..
  | .fp6One .. | .fp12Zero .. | .fp12One .. | .fp12Dec .. | .g1Inf .. | .g1Unmarshal .. | .g1Random ..
  | .g2Inf .. | .g2Unmarshal .. | .g2Random .. | .pairchk .. | .kLd .. | .kLdi .. =>
    ⟨_, rfl, readsFirst_nil⟩
  | .fpNeg .. | .fpSqr .. | .fpMov .. | .fp2Neg .. | .fp2Sqr .. | .fp2Mov .. | .fp2Mulxi ..
  | .fp6Neg .. | .fp6Sqr .. | .fp6Mov .. | .fp6Frob .. | .fp6Frobp2 .. | .fp6Frobp4 ..
  | .fp6Multau .. | .fp12Neg .. | .fp12Sqr .. | .fp12Mov .. | .fp12Frob .. | .fp12Frobp2 ..
  | .fp12Frobp4 .. | .fp12Conj .. | .gtBaseexp .. | .g1Aff .. | .g1Mov .. | .g2Aff .. | .g2Mov ..
  | .fp2Get .. | .fp6Get .. | .fp12Get .. | .kMov .. =>
    ⟨_, congrArg (runCommand _ s) unary_eq_onSource, readsFirst_one rfl⟩
  | .fpInv .. | .fp2Inv .. | .fp6Inv .. | .fp12Inv .. | .finalexp .. =>
    ⟨_, congrArg (runCommand _ s) unaryNonzero_eq_onSource, readsFirst_one rfl⟩
  | .fpIszero .. | .fpIsone .. | .fp2Iszero .. | .fp2Isone .. | .fp6Iszero .. | .fp6Isone ..
  | .fp12Iszero .. | .fp12Isone .. | .g1Oncurve .. | .g2Oncurve .. =>
    ⟨_, congrArg (runCommand _ s) test_eq_onSource, readsFirst_one rfl⟩
  | .fpEnc .. | .fp2Enc .. | .fp12Enc .. | .g1Marshal .. | .g2Marshal .. =>
    ⟨_, congrArg (runCommand _ s) encodeReg_eq_onSource, readsFirst_one rfl⟩
  | .kSt .. => ⟨_, congrArg (runCommand _ s) storeScalar_eq_onSource, readsFirst_one rfl⟩
  | .g1Dbl .. | .g1Neg .. | .g2Dbl .. | .g2Neg .. =>
    ⟨_, congrArg (runCommand _ s) pointUnary_eq_onSource, readsFirst_one rfl⟩
  | .g1Basemul .. | .g2Basemul .. =>
    ⟨_, congrArg (runCommand _ s) pointBaseMul_eq_onSource, readsFirst_one rfl⟩
  | .fpAdd .. | .fpSub .. | .fpMul .. | .fp2Add .. | .fp2Sub .. | .fp2Mul .. | .fp6Add ..
  | .fp6Sub .. | .fp6Mul .. | .fp12Add .. | .fp12Sub .. | .fp12Mul .. | .fp12Exp .. | .miller ..
  | .pair .. | .fp2Pack .. | .fp12Pack .. =>
    ⟨_, congrArg (runCommand _ s) binary_eq_onSource, readsFirst_two rfl rfl⟩
  | .fpEq .. | .fp2Eq .. | .fp6Eq .. | .fp12Eq .. =>
    ⟨_, congrArg (runCommand _ s) test2_eq_onSource, readsFirst_two rfl rfl⟩
  | .g1Add .. | .g2Add .. => ⟨_, congrArg (runCommand _ s) pointAdd_eq_onSource, readsFirst_two rfl rfl⟩
  | .g1Mul .. | .g2Mul .. => ⟨_, congrArg (runCommand _ s) pointMul_eq_onSource, readsFirst_two rfl rfl⟩
  | .fp6Pack .. => ⟨_, congrArg (runCommand _ s) ternary_eq_onSource,
      readsFirst_cons rfl fun _ => readsFirst_two rfl rfl⟩

end Sources

/-! ### The lists of PAIRCHK -/

/-- A run that has a register that is not valid has no list of contents (R408). -/
theorem readRun_of_invalid {α : Type} {n start m j : Nat} {v : Vector (Reg α) n} {r : Reg α} (hj : j < m)
    (hr : v[start + j]? = some r) (invalid : r.valid = false) : readRun v start m = none := by
  cases h : readRun v start m with
  | none => rfl
  | some xs =>
    obtain ⟨length, entries⟩ := readRun_eq_some.mp h
    have entry := entries j (length ▸ hj)
    rw [hr] at entry
    cases entry
    cases invalid

/-- PAIRCHK of lists that the files hold, one register of them not valid. -/
theorem pairCheck_of_invalid {ra rb : Field6} {s : State} (equal : s.lena = s.lenb)
    (inside1 : ra.toNat + s.lena.toNat ≤ Config.nG1) (inside2 : rb.toNat + s.lena.toNat ≤ Config.nG2)
    (unread : readRun s.g1 ra.toNat s.lena.toNat = none ∨ readRun s.g2 rb.toNat s.lena.toNat = none) :
    pairCheck ra rb s = .fault .uninitOperand := by
  rcases pairCheck_cases ra rb s with ⟨bad, _⟩ | ⟨_, _, _, ⟨_, e⟩ | ⟨ps, qs, hp, hq, _⟩⟩
  · rcases bad with unequal | outside1 | outside2
    · exact absurd equal unequal
    · exact absurd inside1 outside1.not_ge
    · exact absurd inside2 outside2.not_ge
  · exact e
  · rcases unread with none1 | none2
    · exact nomatch none1.symm.trans hp
    · exact nomatch none2.symm.trans hq

/-- Settles O35: command by command the sources are read first; PAIRCHK reads its runs after the checks of
their shape. -/
theorem uninitOperandFaults : Obligations.UninitOperandFaults := by
  refine ⟨fun i s ready invalid => ?_, fun ra rb s ready equal inside1 inside2 invalid => ?_⟩
  · obtain ⟨e, shape, first⟩ := exec_readsFirst s i
    exact exec_fault .uninitOperand ready shape (first invalid)
  · obtain ⟨j, hj, register⟩ := invalid
    have unread := register.imp (fun ⟨_, hr, tag⟩ => readRun_of_invalid hj hr tag)
      fun ⟨_, hr, tag⟩ => readRun_of_invalid hj hr tag
    exact exec_fault .uninitOperand ready rfl (pairCheck_of_invalid equal inside1 inside2 unread)

end Sys2Proof.Proofs
end

section
/-!
The statement about G1.RANDOM and G2.RANDOM (R438 to R440, R467): what a request to the entropy source
answers, and the scalar and the multiple that are then stored.
-/

namespace Sys2Proof.Proofs

open Sys2Proof Sys2Proof.Machine Sys2Proof.Laws

/-! ### A request to the entropy source -/

section Request

variable {s : State}

theorem entropyAnswer_waiting {a : EntropyAnswer} {rest : List EntropyAnswer}
    (h : s.entropy = a :: rest) : entropyAnswer s = a := by
  rw [entropyAnswer, h]

theorem afterRequest_waiting {a : EntropyAnswer} {rest : List EntropyAnswer}
    (h : s.entropy = a :: rest) : afterRequest s = { s with entropy := rest } := by
  rw [afterRequest, h]

theorem afterRequest_free (h : s.entropy = []) : afterRequest s = { s with draws := s.draws + 1 } := by
  rw [afterRequest, h]

end Request

/-! ### RANDOM, for both groups -/

section Random

variable {F L : Type} [DecidableEq F] [Field L] {G : PointGroup F} {good : F → Prop} {φ : F → L}
  {base : Aff F} {i : Instr} {s : State} {rd kd : Field6}

/-- A write to the file leaves ERR and the count of draws, and does not look at them. -/
def IgnoresCounters {α : Type} (file : RegFile α) : Prop :=
  ∀ s f x err draws, { file.write s f x with err, draws } = file.write { s with err, draws } f x

/-- Command `i` stores the scalar r in kd and a quadruple for [r]base in rd, clears ERR, and leaves
everything else as `t` has it, but for the count of draws (R438, R439). -/
def AnswersRandom (G : PointGroup F) (base : Aff F) (rd kd : Field6) (i : Instr) (s t : State) (r : Nat) :
    Prop :=
  ∃ j d, exec i s = .next (G.file.write { kFile.write t kd r with err := 0, draws := d } rd j) ∧
    affineOf G.ops j = Aff.smul G.ops r base

variable (ready : Ready i s) (shape : exec i s = runCommand i s (pointRandom G base rd kd s))
include ready shape

theorem random_of_fail (answer : entropyAnswer s = .fail) :
    exec i s = .next (takeError .entropyFailure (afterRequest s)) := by
  rcases pointRandom_cases G base rd kd s with ⟨_, e⟩ | ⟨r, other, _⟩
  · exact exec_eq_finish ready shape e
  · exact nomatch answer.symm.trans other

theorem random_of_scalar (M : GroupModel G good φ) (coordinates : ∀ k, Aff.All good (Aff.smul G.ops k base))
    (file : IgnoresCounters G.file) {r : Nat} (answer : entropyAnswer s = .scalar r) :
    AnswersRandom G base rd kd i s (afterRequest s) (drawnScalar r) := by
  rcases pointRandom_cases G base rd kd s with ⟨other, _⟩ | ⟨r', same, e⟩
  · exact nomatch answer.symm.trans other
  · cases answer.symm.trans same
    exact ⟨_, _, exec_success ready shape e (file _ _ _ _ _), affineOf_drawn M (coordinates _) _⟩

/-- The three cases of the source: a scalar of [1, n) waits, a failure waits, or nothing waits and the answer
is free (R440, R467; log 9). -/
theorem random_results (M : GroupModel G good φ) (coordinates : ∀ k, Aff.All good (Aff.smul G.ops k base))
    (file : IgnoresCounters G.file) :
    (∀ r rest, s.entropy = .scalar r :: rest → 1 ≤ r → r < Config.params.n →
      AnswersRandom G base rd kd i s { s with entropy := rest } r) ∧
    (∀ rest, s.entropy = .fail :: rest → exec i s = .next { s with err := 3, entropy := rest }) ∧
    (s.entropy = [] → (∃ d, exec i s = .next { s with err := 3, draws := d }) ∨
      ∃ r, 1 ≤ r ∧ r < Config.params.n ∧ AnswersRandom G base rd kd i s s r) := by
  refine ⟨fun r rest waiting lower upper => ?scalar, fun rest waiting => ?fail, fun free => ?free⟩
  case scalar =>
    have stored := random_of_scalar ready shape M coordinates file (entropyAnswer_waiting waiting)
    obtain ⟨_, _, same⟩ := drawnScalar_range r
    rwa [same lower upper, afterRequest_waiting waiting] at stored
  case fail =>
    have failed := random_of_fail ready shape (entropyAnswer_waiting waiting)
    rwa [afterRequest_waiting waiting] at failed
  case free =>
    cases answer : entropyAnswer s with
    | fail =>
      have failed := random_of_fail ready shape answer
      rw [afterRequest_free free] at failed
      exact .inl ⟨_, failed⟩
    | scalar r =>
      have stored := random_of_scalar ready shape M coordinates file answer
      rw [afterRequest_free free] at stored
      obtain ⟨lower, upper, _⟩ := drawnScalar_range r
      exact .inr ⟨_, lower, upper, stored⟩

end Random

/-- Settles O31: both commands are `pointRandom`, and the multiples of a generator have canonical
coordinates. -/
theorem randomResults : Obligations.RandomResults := by
  have := p_fact
  have := fp2_fact
  intro rd kd s run hrd hkd
  obtain ⟨scalar1, fail1, free1⟩ := random_results (G := g1Group) (i := .g1Random rd kd)
    (ready_of_two run hrd hkd rfl) rfl g1_model (canonical1_pointSet.smul canonical1_pointSet.base)
    fun _ _ _ _ _ => rfl
  obtain ⟨scalar2, fail2, free2⟩ := random_results (G := g2Group) (i := .g2Random rd kd)
    (ready_of_two run hrd hkd rfl) rfl g2_model (canonical2_pointSet.smul canonical2_pointSet.base)
    fun _ _ _ _ _ => rfl
  exact ⟨fun r rest waiting lower upper =>
      ⟨scalar1 r rest waiting lower upper, scalar2 r rest waiting lower upper⟩,
    fun rest waiting => ⟨fail1 rest waiting, fail2 rest waiting⟩, fun free => ⟨free1 free, free2 free⟩⟩

end Sys2Proof.Proofs
end

section
/-!
The codecs of points (R432 to R437). A byte string stands for an affine point, and a point decoder writes that
point's representative; MARSHAL and UNMARSHAL are then a codec as those of the fields are, once for both groups.
The pattern of all zero limbs is free for infinity because the origin is on neither curve.
-/

namespace Sys2Proof.Proofs

open Sys2Proof Sys2Proof.Machine Sys2Proof.Laws

/-! ### Affine points and byte strings -/

section Codec

variable {F : Type}

/-- The affine point that a byte string stands for, on a curve or not (R433, R435, R436). -/
def pointOfBytes (limbs : Nat) (coords : List Byte → F × F) (s : List Byte) : Aff F :=
  if allZeroPattern limbs s then .inf else .pt (coords s).1 (coords s).2

/-- The quadruple that a point decoder writes: (0, 1, 0, 0) or (x, y, 1, 1) (R433, R435). -/
def representative (K : FieldOps F) : Aff F → Jac F
  | .inf => Jac.infinity K
  | .pt x y => Jac.ofAffine K x y

variable {G : PointGroup F} {len limbs : Nat} {coords : List Byte → F × F} {bytes : Aff F → List Byte}
  {good : F → Prop} {enc dec : Instr} {s t : State} {ra rd : Field6}

theorem affineOf_representative [DecidableEq F] {L : Type} [Field L] {φ : F → L}
    (M : GroupModel G good φ) {P : Aff F} (hP : Aff.All good P) : affineOf G.ops (representative G.ops P) = P := by
  cases P with
  | inf => exact affineOf_of_z_eq_zero rfl
  | pt x y => exact affineOf_ofAffine M hP.1 hP.2

/-- On bytes that stand for a valid point a point decoder is a decoder of its representative. -/
theorem pointDecode_eq_decodeReg {b : List Byte} (room : windowEnd s ≤ Config.bufBytes)
    (inside : len ≤ s.blen.toNat) (read : memReadRange s.dbuf s.bptr.toNat len = some b)
    (on : G.onCurve (pointOfBytes limbs coords b) = true) :
    pointDecode G len (allZeroPattern limbs) coords rd s =
      decodeReg G.file len (fun b => representative G.ops (pointOfBytes limbs coords b)) rd s := by
  rw [pointDecode, decodeReg, withWindow_read room inside, withWindow_read room inside, read,
    Option.elim, Option.elim]
  unfold pointOfBytes at on ⊢
  split
  next => rfl
  next zeros =>
    rw [if_neg zeros] at on
    exact if_pos on

/-- What an encoder leaves for a decoder whose window is set to the appended bytes. -/
theorem window_after_append {b : List Byte} (appends : Appends enc s len b)
    (room : windowEnd s + len ≤ Config.bufBytes) (encoded : exec enc s = .next t) :
    t.fault = s.fault ∧ memReadRange t.dbuf (windowEnd s) len = some b := by
  obtain ⟨t', encoded', frame, _, written, _⟩ := appends room
  obtain rfl : t' = t := by simpa [encoded] using encoded'.symm
  exact ⟨(congrArg State.fault frame :), written⟩

/-! ### The codec of one group -/

/-- What ties the bytes of a group's points to the coordinates that its decoder takes from them. -/
structure PointCodec (G : PointGroup F) (len limbs : Nat) (coords : List Byte → F × F)
    (bytes : Aff F → List Byte) (good : F → Prop) : Prop where
  file : CodecFile G.file
  length : ∀ P, (bytes P).length = len
  coords_good : ∀ s, good (coords s).1 ∧ good (coords s).2
  coords_bytes : ∀ {x y}, good x → good y → coords (bytes (.pt x y)) = (x, y)
  bytes_coords : ∀ {s}, s.length = len → (∀ j < limbs, limbNat s j < Config.params.p) →
    bytes (.pt (coords s).1 (coords s).2) = s
  zeros_inf : LimbsAllZero limbs (bytes .inf)
  coords_zeros : ∀ {s}, LimbsAllZero limbs s → coords s = (G.ops.zero, G.ops.zero)
  bytes_origin : bytes (.pt G.ops.zero G.ops.zero) = bytes .inf
  onCurve_inf : G.onCurve .inf = true
  onCurve_origin : G.onCurve (.pt G.ops.zero G.ops.zero) = false

/-- The two commands of a group that write and read such bytes, each legal for every register of its file. -/
structure PointCommands [DecidableEq F] (G : PointGroup F) (len limbs : Nat) (coords : List Byte → F × F)
    (bytes : Aff F → List Byte) (marshal unmarshal : Field6 → Instr) : Prop where
  marshal_shape : ∀ ra s, exec (marshal ra) s =
    runCommand (marshal ra) s (encodeReg G.file len (fun j => bytes (affineOf G.ops j)) ra s)
  unmarshal_shape : ∀ rd s, exec (unmarshal rd) s =
    runCommand (unmarshal rd) s (pointDecode G len (allZeroPattern limbs) coords rd s)
  marshal_legal : ∀ ra, (marshal ra).wellFormed = (inFile 16 ra && true)
  unmarshal_legal : ∀ rd, (unmarshal rd).wellFormed = (inFile 16 rd && true)

section Laws

variable (C : PointCodec G len limbs coords bytes good)
include C

theorem pointOfBytes_good (s : List Byte) : Aff.All good (pointOfBytes limbs coords s) := by
  unfold pointOfBytes
  split
  · trivial
  · exact C.coords_good s

/-- The bytes of a valid point stand for it: a finite point whose limbs were all zero would be the origin. -/
theorem pointOfBytes_bytes {P : Aff F} (hP : Aff.All good P) (on : G.onCurve P = true) :
    pointOfBytes limbs coords (bytes P) = P := by
  cases P with
  | inf => exact if_pos (allZeroPattern_iff.mpr C.zeros_inf)
  | pt x y =>
    have decoded := C.coords_bytes hP.1 hP.2
    have nonzero : ¬ allZeroPattern limbs (bytes (.pt x y)) = true := fun zeros => by
      have origin := decoded.symm.trans (C.coords_zeros (allZeroPattern_iff.mp zeros))
      obtain ⟨rfl, rfl⟩ := Prod.mk.inj origin
      exact absurd (C.onCurve_origin.symm.trans on) Bool.false_ne_true
    rw [pointOfBytes, if_neg nonzero, decoded]

/-- A string with limbs below p is that of its point; infinity has the bytes that the origin would have. -/
theorem bytes_pointOfBytes {s : List Byte} (hs : s.length = len)
    (below : ∀ j < limbs, limbNat s j < Config.params.p) :
    bytes (pointOfBytes limbs coords s) = s := by
  have whole := C.bytes_coords hs below
  unfold pointOfBytes
  split
  next zeros =>
    rw [C.coords_zeros (allZeroPattern_iff.mp zeros)] at whole
    exact C.bytes_origin.symm.trans whole
  next => exact whole

/-- A point decoder that ends without an error has read a valid point (R466). -/
theorem onCurve_of_decoded {b : List Byte} (ready : Ready dec s)
    (shape : exec dec s = runCommand dec s (pointDecode G len (allZeroPattern limbs) coords rd s))
    (room : windowEnd s ≤ Config.bufBytes) (inside : len ≤ s.blen.toNat)
    (read : memReadRange s.dbuf s.bptr.toNat len = some b) (decoded : exec dec s = .next t)
    (success : t.err = 0) : G.onCurve (pointOfBytes limbs coords b) = true := by
  obtain ⟨_, _, malformed⟩ :=
    pointDecode_answers G C.file.keeps ready shape room inside read Iff.rfl Iff.rfl
  unfold pointOfBytes
  split
  next => exact C.onCurve_inf
  next nonzero =>
    by_contra off
    rw [malformed nonzero off] at decoded
    cases decoded
    exact absurd success (show (2 : Word32) ≠ 0 by decide)

variable [DecidableEq F] {marshal unmarshal : Field6 → Instr}
  (D : PointCommands G len limbs coords bytes marshal unmarshal) {L : Type} [Field L] {φ : F → L}
  (M : GroupModel G good φ)
include D M

/-- UNMARSHAL of the bytes that MARSHAL has just appended writes the representative of the affine image
(R437). -/
theorem unmarshal_after_marshal {j : Jac F} (ready : Ready (marshal ra) s) (hrd : rd.toNat < 16)
    (hj : G.file.read s ra = some j) (on : G.onCurve (affineOf G.ops j) = true)
    (room : windowEnd s + len ≤ Config.bufBytes) (encoded : exec (marshal ra) s = .next t) :
    ∃ u j', exec (unmarshal rd) (setWindow t (windowEnd s) len) = .next u ∧ u.err = 0 ∧ u.blen = 0 ∧
      G.file.read u rd = some j' ∧ affineOf G.ops j' = affineOf G.ops j ∧
      (j.z = G.ops.zero → j' = Jac.infinity G.ops) ∧
      (∀ x y, affineOf G.ops j = .pt x y → j' = Jac.ofAffine G.ops x y) := by
  have image := affineOf_good M.toFieldModel j
  have restored := pointOfBytes_bytes C image on
  have appends := appends_of_encodeReg G.file (fun j => bytes (affineOf G.ops j)) ready
    (D.marshal_shape ra s) (C.length _) hj
  obtain ⟨fault, written⟩ := window_after_append appends room encoded
  generalize hw : setWindow t (windowEnd s) len = w
  have ready' : Ready (unmarshal rd) w :=
    ready_of_index (hw ▸ (halted_congr fault).trans ready.running) hrd (D.unmarshal_legal rd)
  have room' : windowEnd w ≤ Config.bufBytes := hw ▸ (setWindow_end room).trans_le room
  have blen : w.blen.toNat = len := hw ▸ setWindow_blen room
  have read : memReadRange w.dbuf w.bptr.toNat len = some (bytes (affineOf G.ops j)) := by
    rw [← hw, setWindow_bptr room]
    exact written
  have shape := D.unmarshal_shape rd w
  rw [pointDecode_eq_decodeReg room' blen.ge read (by rw [restored, on])] at shape
  have answer := exec_decodeReg G.file _ C.file.keeps ready' shape room' blen.ge read
  rw [restored, blen, Nat.sub_self] at answer
  refine ⟨_, representative G.ops (affineOf G.ops j), answer, rfl, rfl, C.file.reads _ _ _ _ _ _ hrd,
    affineOf_representative M image, fun hz => ?infinite, fun x y hxy => ?finite⟩
  case infinite => rw [affineOf_of_z_eq_zero hz, representative]
  case finite => rw [hxy, representative]

/-- MARSHAL of what UNMARSHAL has accepted appends the bytes that were read, if their limbs are below p
(R437). -/
theorem marshal_after_unmarshal {b : List Byte} {start : Nat} (ready : Ready (unmarshal rd) s)
    (room : windowEnd s ≤ Config.bufBytes) (inside : len ≤ s.blen.toNat)
    (read : memReadRange s.dbuf s.bptr.toNat len = some b)
    (below : ∀ j < limbs, limbNat b j < Config.params.p) (decoded : exec (unmarshal rd) s = .next t)
    (success : t.err = 0) (fits : start + len ≤ Config.bufBytes) :
    ∃ u, exec (marshal rd) (setWindow t start 0) = .next u ∧
      memReadRange u.dbuf start len = some b := by
  have shape := D.unmarshal_shape rd s
  have on := onCurve_of_decoded C ready shape room inside read decoded success
  rw [pointDecode_eq_decodeReg room inside read on] at shape
  have written : bytes (affineOf G.ops (representative G.ops (pointOfBytes limbs coords b))) = b := by
    rw [affineOf_representative M (pointOfBytes_good C b),
      bytes_pointOfBytes C (memReadRange_length read) below]
  exact encode_after_decode C.file ready (D.unmarshal_legal rd) shape room inside read decoded fits
    ((D.marshal_legal rd).trans (D.unmarshal_legal rd).symm)
    fun w ready' held => written ▸ appends_of_encodeReg G.file (fun j => bytes (affineOf G.ops j)) ready'
      (D.marshal_shape rd w) (C.length _) held

end Laws

end Codec

/-! ### Zero limbs -/

theorem beNat_replicate_zero (m : Nat) : beNat (List.replicate m 0) = 0 := by
  induction m with
  | zero => rfl
  | succ m ih => rw [List.replicate_succ, beNat_cons, ih]; simp

theorem limbsAllZero_replicate (n m : Nat) : LimbsAllZero n (List.replicate m 0) := by
  have zero (j : Nat) : limbNat (List.replicate m 0) j = 0 := by
    rw [limbNat, List.drop_replicate, List.take_replicate, beNat_replicate_zero]
  unfold LimbsAllZero
  split
  · exact fun j _ => zero j
  · exact fun j _ => by rw [zero, Nat.zero_mod]

/-- Under either reading of R436 the limbs decode to zero. -/
theorem fp_ofLimb_zeros {n j : Nat} {s : List Byte} (zeros : LimbsAllZero n s) (hj : j < n) :
    Fp.ofLimb Config.params s j = Fp.zero := by
  rw [Fp.ofLimb, zero_eq_enc, enc_eq_iff, Nat.zero_mod]
  unfold LimbsAllZero at zeros
  split at zeros
  · rw [zeros j hj, Nat.zero_mod]
  · exact zeros j hj

theorem fp_toBytes_zero : Fp.toBytes Config.params Fp.zero = List.replicate 32 0 := by
  have zero : Fp.val Config.params Fp.zero = 0 := by simp [Fp.val, Fp.zero]
  rw [Fp.toBytes, zero]
  rfl

/-! ### The codecs of the two groups -/

/-- The origin does not satisfy the equation of R310, whose constant is not zero. -/
theorem onCurveEq_origin {F L : Type} [DecidableEq F] [Field L] {G : PointGroup F} {good : F → Prop}
    {φ : F → L} (M : GroupModel G good φ) {w : F} (hw : φ w ≠ 0) :
    onCurveEq G.ops w G.ops.zero G.ops.zero = false :=
  Bool.eq_false_iff.mpr fun on => by
    have equation := (onCurveEq_iff M.toFieldModel).mp on
    exact hw (by simpa [M.map_zero] using equation.symm)

theorem g1File_codec : CodecFile g1File :=
  ⟨fun _ _ _ => ⟨rfl, rfl, rfl⟩, fun _ _ _ => rfl, fun s _ x _ _ _ => readReg_writeReg_same s.g1 x⟩

theorem g2File_codec : CodecFile g2File :=
  ⟨fun _ _ _ => ⟨rfl, rfl, rfl⟩, fun _ _ _ => rfl, fun s _ x _ _ _ => readReg_writeReg_same s.g2 x⟩

/-- The bytes of R88. -/
theorem g1_codec : PointCodec g1Group 64 2
    (fun b => (Fp.ofLimb Config.params b 0, Fp.ofLimb Config.params b 1)) (g1Bytes Config.params)
    (Fp.Canonical Config.params) where
  file := g1File_codec
  length := g1Bytes_length
  coords_good s := ⟨enc_canonical _, enc_canonical _⟩
  coords_bytes {x y} hx hy := by
    rw [g1Bytes, fp_ofLimb_toBytes_append hx, fp_ofLimb_skip (m := 1) (toBytes_length x) 0,
      fp_ofLimb_toBytes hy]
  bytes_coords {s} hs below := fp2_toBytes_ofLimbs_whole hs below
  zeros_inf := limbsAllZero_replicate 2 64
  coords_zeros zeros := by
    rw [fp_ofLimb_zeros zeros (by decide), fp_ofLimb_zeros zeros (by decide)]
    rfl
  bytes_origin := by
    rw [g1Bytes, g1Bytes]
    exact congrArg₂ _ fp_toBytes_zero fp_toBytes_zero
  onCurve_inf := rfl
  onCurve_origin :=
    have := p_fact
    onCurveEq_origin g1_model residue_b1_ne_zero

theorem g1_commands : PointCommands g1Group 64 2
    (fun b => (Fp.ofLimb Config.params b 0, Fp.ofLimb Config.params b 1)) (g1Bytes Config.params)
    .g1Marshal .g1Unmarshal :=
  ⟨fun _ _ => rfl, fun _ _ => rfl, fun _ => rfl, fun _ => rfl⟩

/-- The bytes of R89. -/
theorem g2_codec : PointCodec g2Group 128 4
    (fun b => (Fp2.ofLimbs Config.params b 0, Fp2.ofLimbs Config.params b 2)) (g2Bytes Config.params)
    (Fp2.Canonical Config.params) where
  file := g2File_codec
  length := g2Bytes_length
  coords_good s := ⟨⟨enc_canonical _, enc_canonical _⟩, ⟨enc_canonical _, enc_canonical _⟩⟩
  coords_bytes {x y} hx hy := by
    rw [g2Bytes, fp2_ofLimbs_toBytes_append hx, fp2_ofLimbs_skip (m := 2) (fp2_toBytes_length x) 0,
      fp2_ofLimbs_toBytes hy]
  bytes_coords {s} hs below := by
    have first := fp2_toBytes_ofLimbs (s := s) (j := 0) (by omega) fun i hi => below (0 + i) (by omega)
    have second := fp2_toBytes_ofLimbs (s := s) (j := 2) (by omega) fun i hi => below (2 + i) (by omega)
    rw [g2Bytes, first, second, Nat.mul_zero, List.drop_zero, ← List.take_add]
    exact List.take_of_length_le hs.le
  zeros_inf := limbsAllZero_replicate 4 128
  coords_zeros zeros := by
    simp only [Fp2.ofLimbs, Nat.reduceAdd, fp_ofLimb_zeros zeros (j := 0) (by decide),
      fp_ofLimb_zeros zeros (j := 1) (by decide), fp_ofLimb_zeros zeros (j := 2) (by decide),
      fp_ofLimb_zeros zeros (j := 3) (by decide)]
    rfl
  bytes_origin := by
    have zero : Fp2.toBytes Config.params Fp2.zero = List.replicate 64 0 :=
      congrArg₂ (· ++ ·) fp_toBytes_zero fp_toBytes_zero
    rw [g2Bytes, g2Bytes]
    exact congrArg₂ (· ++ ·) zero zero
  onCurve_inf := rfl
  onCurve_origin := by
    have := p_fact
    have := fp2_fact
    exact Bool.and_eq_false_imp.mpr fun on =>
      absurd ((onCurveEq_origin g2_model residue_b2_ne_zero).symm.trans on) Bool.false_ne_true

theorem g2_commands : PointCommands g2Group 128 4
    (fun b => (Fp2.ofLimbs Config.params b 0, Fp2.ofLimbs Config.params b 2)) (g2Bytes Config.params)
    .g2Marshal .g2Unmarshal :=
  ⟨fun _ _ => rfl, fun _ _ => rfl, fun _ => rfl, fun _ => rfl⟩

/-- Settles O59: both directions of the codec, for each group. -/
theorem pointRoundTrips : Obligations.PointRoundTrips := by
  have := p_fact
  have := fp2_fact
  refine ⟨?g1Restored, ?g1Rewritten, ?g2Restored, ?g2Rewritten⟩
  case g1Restored =>
    intro ra rd s t j ready hrd hj _ on room encoded
    exact unmarshal_after_marshal g1_codec g1_commands g1_model ready hrd hj on room encoded
  case g1Rewritten =>
    intro rd s t b start ready room inside read below decoded success fits
    exact marshal_after_unmarshal g1_codec g1_commands g1_model ready room inside read below decoded
      success fits
  case g2Restored =>
    intro ra rd s t j ready hrd hj _ on room encoded
    exact unmarshal_after_marshal g2_codec g2_commands g2_model ready hrd hj on room encoded
  case g2Rewritten =>
    intro rd s t b start ready room inside read below decoded success fits
    exact marshal_after_unmarshal g2_codec g2_commands g2_model ready room inside read below decoded
      success fits

end Sys2Proof.Proofs
end
